-- ==== Sys2Proof/Word.lean ====
section
/-! DEFINITION. The word types of the ASC-416's interfaces, the index types of its numbered objects, and reading and
writing one place of a table of fixed length. -/

namespace Sys2Proof

/-- One byte of a frame, a payload or a span word. -/
abbrev Byte := BitVec 8

/-- A two-byte field of a payload, high byte first on the line (R177). -/
abbrev Half := BitVec 16

/-- A count of 32 bits that wraps: timestamps (00_scope.md, Units) and the counts of R145. -/
abbrev Word32 := BitVec 32

/-- A site ordinal, 0 … 4095 (R122). -/
abbrev Ordinal := BitVec 12

/-- The degrees D0 to D3. -/
abbrev Degree := Fin 4

/-- The monitor channels 0 to 15 (R1). -/
abbrev ChannelNo := Fin 16

/-- The contact inputs K0 to K7. -/
abbrev ContactNo := Fin 8

/-- The sources S0 to S15. -/
abbrev SourceNo := Fin 16

/-- The hazard map entries E0 to E63. -/
abbrev EntryNo := Fin 64

/-- The capture buffers B0 and B1. -/
abbrev BufferNo := Fin 2

/-- The profiles OPERATE (0) and SERVICE (1). -/
abbrev ProfileNo := Fin 2

/-- A set of degrees, bit 0 for D0 up to bit 3 for D3 (R177). -/
abbrev DegSet := BitVec 4

/-- A class mask: bit c for class c (R177). -/
abbrev ClassMask := BitVec 4

/-- A timer: stopped, or running with its remaining time in ms. -/
abbrev Timer := Option Nat

/-- The value at place `i` of a table. -/
def look {α : Type} {n : Nat} (v : Vector α n) (i : Fin n) : α := v[i]

/-- The table `v` with `x` at place `i`. -/
def put {α : Type} {n : Nat} (v : Vector α n) (i : Fin n) (x : α) : Vector α n := v.set i x

/-- The degrees of a set in ascending order. -/
def DegSet.toList (m : DegSet) : List Degree := (List.finRange 4).filter fun d => m.getLsbD d

/-- The set that holds one degree. -/
def DegSet.one (d : Degree) : DegSet := BitVec.ofNat 4 (2 ^ d.val)

/-- The set that holds the degrees of a list. -/
def DegSet.ofList (l : List Degree) : DegSet := l.foldr (fun d m => DegSet.one d ||| m) 0

end Sys2Proof
end

