-- ==== Sys2Proof/Syntax.lean ====
section
/-! DEFINITION. The commands of the ASC-416: one constructor of Instr per row of spec/opcode_table.json, with the
operands the row's event carries. Request commands carry the fields of their payload as sent (R181, R184, R187): bytes
and two-byte fields of any value, which the owning block refuses or clamps by its own rule. -/

namespace Sys2Proof

/-- The role of a monitor channel (R1). -/
inductive Role
  | inn | out | refl | prefl
  deriving DecidableEq, Repr

/-- The eleven condition kinds (R17). -/
inductive Kind
  | darkIn | reflect | pumpReflect | monitorFault | lineLost | farShut | farLock | miswire
  | guardOpen | keyOpen | masterShut
  deriving DecidableEq, Repr

/-- The detail of a condition key (R17). -/
inductive Detail
  | channel (c : ChannelNo)
  | contact (k : ContactNo)
  deriving DecidableEq, Repr

/-- A condition key (R17), and with parts left open the key of a hazard map entry (R39). -/
structure Key where
  kind : Kind
  degree : Option Degree
  detail : Option Detail
  deriving DecidableEq, Repr

/-- What the claim unit is told (R147): a state change of a span, or a raise or clear of a key with the degree it
carries, if any. -/
inductive Notice
  | spanChange (d : Degree)
  | condition (d : Option Degree)
  deriving DecidableEq, Repr

/-- The further events that break a claim whatever its set (R148). -/
inductive BreakCause
  | profile | resync | softReset
  deriving DecidableEq, Repr

/-- The notify categories, one per block that queues reports (R171). -/
inductive Category
  | condition | span | source | capture
  deriving DecidableEq, Repr

/-- The three bytes of a condition key as sent (R184). -/
structure RawKey where
  kind : Byte
  degree : Byte
  detail : Byte
  deriving DecidableEq, Repr

/-- One source action of a PUT_ENTRY payload as sent (R184). -/
structure RawAction where
  source : Byte
  ceiling : Byte
  persistence : Byte
  deriving DecidableEq, Repr

/-- The eight values of a SET_SPAN payload as sent, after its degree (R187). -/
structure RawSpanConfig where
  hazardLimit : Half
  restartInterval : Half
  probeTime : Byte
  probeLimit : Byte
  settleTime : Half
  rampDepth : Half
  rampStep : Half
  rampInterval : Half
  deriving DecidableEq, Repr

/-- The fourteen numeric values of a SET_PROFILE payload as sent, in the order of R134's table (R187). -/
structure RawLimits where
  darkLevel : Half
  darkHyst : Half
  darkRaise : Half
  darkClear : Half
  reflectLimit : Half
  reflectHyst : Half
  reflectRaise : Half
  reflectClear : Half
  outFloor : Half
  pumpLimit : Half
  pumpHyst : Half
  pumpRaise : Half
  pumpClear : Half
  lineTimeout : Half
  deriving DecidableEq, Repr

/-- The commands. A command without operands, where its row is an event that one block hands another, takes the oldest
such event in transit; a command with a degree, a notice, a break or a category takes the oldest one of that name. -/
inductive Instr
  -- the reset, the readings and the conditions (R79, R2, R155, R50, R20, R29, R31, R32, R35)
  | powerOnReset
  | monitorReading (ch : ChannelNo) (code : BitVec 12) (valid : Bool)
  | historySample (d : Degree)
  | lookup
  | snapshotWrite
  | forcedClear (d : Degree)
  | contactLevelChange (k : ContactNo)
  | debounceExpiry (k : ContactNo)
  | masterShutAssertion
  | masterShutDeassertion
  | clearDelayExpiry
  -- what the grant unit and the span controller take (R66, R68, R69, R89, R90, R81, R93)
  | restrictionOrder
  | clearAtGrantUnit
  | removalOrder
  | cutOrder
  | lockOrder
  | clearAtSpanController
  | blockerReexamination
  -- span timers, far words and numbering (R94, R103, R115, R107, R118, R108, R132)
  | settleExpiry (d : Degree)
  | intervalExpiry (d : Degree)
  | probeTimerExpiry (d : Degree)
  | requestTimerExpiry (d : Degree)
  | rampStepExpiry (d : Degree)
  | farWordAtSpanController (d : Degree)
  | siteOrdinalChange (d : Degree)
  -- supervisory lines (R122, R125, R129): bytes that arrive back to back, then idle for longer than one byte time or not
  | spanWordSend (d : Degree)
  | spanWordReceived (d : Degree) (bytes : List Byte) (idle : Bool)
  | lineTimerExpiry (d : Degree)
  -- capture unit, claim unit, profile switch (R157, R147, R148, R149, R140, R141, R143)
  | captureTrigger (d : Degree)
  | claimNotice (n : Notice)
  | claimBreak (c : BreakCause)
  | claimLifeExpiry
  | counterZeroing
  | reevaluation
  | rewrittenSnapshotWrite
  -- host link (R171, R165, R164, R167, R166, R168, R170)
  | reportEnqueue (c : Category)
  | hostByteReceived (b : Byte)
  | characterError
  | resync
  | gapTimerExpiry
  | frameComplete
  | replySent
  -- the requests of R181, in the order of spec/opcode_table.json
  | setChannel (channel : Byte) (dark gain : Half)
  | getReading (first count : Byte)
  | setContact (contact use level degree debounce : Byte)
  | getContact
  | getConditions (position form : Byte)
  | putEntry (placement target : Byte) (key : RawKey) (cls count : Byte) (actions : List RawAction) (cut withhold : Byte)
  | parkEntry (index : Byte)
  | unparkEntry (index : Byte)
  | freeEntry (index : Byte)
  | getEntry (index : Byte)
  | testKey (key : RawKey) (population filter : Byte)
  | setSource (source exposure degree : Byte) (full reduced probe : Half)
  | holdSource (source hold : Byte)
  | releaseLatch (source : Byte)
  | getSource (source : Byte)
  | setSpan (degree : Byte) (config : RawSpanConfig)
  | lock (degree : Byte)
  | resume (count : Byte) (degrees : List Byte)
  | unlock (count : Byte) (degrees : List Byte)
  | getSpan (degree : Byte)
  | probeNow (count duration : Byte) (degrees : List Byte)
  | setSite (own far0 far1 far2 far3 : Half)
  | getLine (degree : Byte)
  | setProfile (profile degree : Byte) (limits : RawLimits) (autoRestart mask : Byte)
  | getProfile (profile degree : Byte)
  | selectProfile (profile : Byte)
  | claim (count : Byte) (degrees : List Byte)
  | getClaim
  | readCapture (buffer page : Byte)
  | releaseCapture (buffer : Byte)
  | getCapture
  | readReports
  | setNotify (mask : Byte)
  | identify
  | resetPart
  deriving DecidableEq, Repr

end Sys2Proof
end

