-- ==== Sys2Proof/Decode.lean ====
section
/-! DEFINITION. Words of the opcode table. No row of spec/opcode_table.json gives bits: the part takes events, not
instruction words, so no word spells a command (notes/assumptions/23.md). The host's bytes are decoded where the part
decodes them, in Sys2Proof/Machine/Operands.lean. -/

namespace Sys2Proof

/-- The command that the low `nbits` bits of `w` spell by the opcode table: none, since no row gives bits. -/
def decodeTableWord (_nbits _w : Nat) : Option Instr := none

end Sys2Proof
end

