-- ==== Sys2Proof/Machine/Types.lean ====
section
/-! DEFINITION. The records each of the ten blocks holds, and the events that stand in transit between them: plain data.
Every field is one that a rule of spec/ names; the rule is cited at the record. -/

namespace Sys2Proof.Machine

/-! ### Monitor front end -/

/-- A channel's calibration record (R4). -/
structure Calibration where
  dark : Nat
  gain : Int
  deriving DecidableEq, Repr

/-- A channel's last-reading record (R10). -/
structure Reading where
  present : Bool
  raw : BitVec 12
  valid : Bool
  saturated : Bool
  value : Int
  deriving DecidableEq, Repr

/-- A degree's last ratio record (R12). -/
structure Ratio where
  r : Int
  evaluated : Bool
  deriving DecidableEq, Repr

/-- The monitor front end: sixteen calibrations and last readings (R4, R10), four held OUT values and last ratios
(R9, R12). -/
structure FrontEnd where
  calib : Vector Calibration 16
  last : Vector Reading 16
  heldOut : Vector (Option Int) 4
  ratio : Vector Ratio 4
  deriving DecidableEq, Repr

/-! ### Condition unit -/

/-- A qualifier: CLEAR or RAISED, and its counter (R23). -/
structure Qualifier where
  raised : Bool
  counter : Nat
  deriving DecidableEq, Repr

/-- Where an input to a qualifier lies (R23). -/
inductive Side
  | hazard | safe | band | hold
  deriving DecidableEq, Repr

/-- What a contact is used for (R30). -/
inductive ContactUse
  | guard | key | unused
  deriving DecidableEq, Repr

/-- A level at a discrete input (R30). -/
inductive Level
  | low | high
  deriving DecidableEq, Repr

/-- A contact's configuration and debounce record (R30), the level at its input, and the raise of it that waits for a
deferred clear (R22). `accepted` is true for OPEN. -/
structure Contact where
  use : ContactUse
  openLevel : Level
  degree : Option Degree
  debounce : Nat
  accepted : Bool
  timer : Timer
  level : Level
  waiting : Option Key
  deriving DecidableEq, Repr

/-- The master-shut input, whether MASTER_SHUT is raised, and the clear delay (R35). -/
structure MasterShut where
  asserted : Bool
  raised : Bool
  delay : Timer
  deriving DecidableEq, Repr

/-- The cause of a clear (R36). -/
inductive ClearCause
  | normal | spanDark | reconfigured
  deriving DecidableEq, Repr

/-- A record of the active condition list (R18). `clearDue` is the clear-due mark together with the cause kept with it
(R22). The primary is the first of `matched`. -/
structure CondRecord where
  key : Key
  raisedAt : Word32
  pending : Bool
  clearDue : Option ClearCause
  matched : List EntryNo
  withheld : DegSet
  deriving DecidableEq, Repr

/-- The condition unit: its twenty-eight qualifiers (R23), the contacts (R30), the master-shut state (R35), the active
condition list, oldest first (R18), and the condition touch numbers (R145). -/
structure CondUnit where
  dark : Vector Qualifier 4
  refl : Vector Qualifier 4
  pump : Vector Qualifier 4
  fault : Vector Qualifier 16
  contacts : Vector Contact 8
  shut : MasterShut
  active : List CondRecord
  touch : Vector Word32 4
  deriving DecidableEq, Repr

/-! ### Hazard map -/

/-- A restriction's ceiling (R42). -/
inductive Ceiling
  | off | probe | reduced
  deriving DecidableEq, Repr

/-- A restriction's persistence (R42). -/
inductive Persistence
  | follow | latch
  deriving DecidableEq, Repr

/-- One source action of an entry (R42). -/
structure Action where
  source : SourceNo
  ceiling : Ceiling
  persistence : Persistence
  deriving DecidableEq, Repr

/-- The content of a LIVE or PARKED entry (section 3.2). -/
structure EntryContent where
  key : Key
  cls : Fin 4
  actions : List Action
  cut : DegSet
  withhold : DegSet
  deriving DecidableEq, Repr

/-- A hazard map entry in one of its three states (R38). -/
inductive Entry
  | free
  | live (c : EntryContent)
  | parked (c : EntryContent)
  deriving DecidableEq, Repr

/-- What waits at the hazard map: a raised key for its lookup (R49), or a re-evaluation, which keeps its place among
the keys (R141). -/
inductive MapItem
  | key (k : Key)
  | reevaluate
  deriving DecidableEq, Repr

/-- The hazard map: its entries and what waits for it, oldest first (R38, R49, R141). -/
structure HazardMap where
  entries : Vector Entry 64
  queue : List MapItem
  deriving DecidableEq, Repr

/-! ### Grant unit -/

/-- Where a source's light leaves the site (R60). -/
inductive Exposure
  | out (d : Degree)
  | inn (d : Degree)
  | enclosed
  | unused
  deriving DecidableEq, Repr

/-- The operator hold (R64). -/
inductive Hold
  | none | reduced | probe | off
  deriving DecidableEq, Repr

/-- The origin of a restriction: a condition key with an entry index, or with FLOOR, which is `none` here (R65). -/
structure Origin where
  key : Key
  entry : Option EntryNo
  deriving DecidableEq, Repr

/-- A restriction record (R65). `latched` is its status: LATCHED, or ACTIVE. -/
structure Restriction where
  origin : Origin
  ceiling : Ceiling
  persistence : Persistence
  latched : Bool
  deriving DecidableEq, Repr

/-- A source record (R59) with the setpoint output of its port (R76). A grant of `none` is OFF. The collection stands in
the order in which its records entered it (R78). `lostShut` is the model's own: MASTER_SHUT's floor order has met a full
collection and its clear has not been taken (R75, notes/assumptions/30.md). -/
structure Source where
  exposure : Exposure
  full : Int
  reduced : Int
  probe : Int
  hold : Hold
  restrictions : List Restriction
  overflow : Bool
  lostShut : Bool
  grant : Option Int
  enable : Bool
  setpoint : Int
  deriving DecidableEq, Repr

/-- The span ceiling of a source (R71). -/
inductive SpanCeiling
  | unbounded
  | off
  | value (v : Int)
  deriving DecidableEq, Repr

/-- The grant unit's sixteen source records (R59). -/
structure GrantUnit where
  sources : Vector Source 16
  deriving DecidableEq, Repr

/-! ### Span controller -/

/-- The seven span states (R80). -/
inductive SpanState
  | lit | ramp | probe | await | dark | held | locked
  deriving DecidableEq, Repr

/-- The causes of a span state change (R82, coded by R183). -/
inductive SpanCause
  | start | cut | blocked | settled | interval | farRequest | farProbe | manual | confirmed | probeTimeout
  | exhausted | rampDone | roleClash | key | command | resume | unlock
  deriving DecidableEq, Repr

/-- The restart role of a span (R88). -/
inductive SpanRole
  | leading | trailing | unknown
  deriving DecidableEq, Repr

/-- How a probe began (R79, R111). -/
inductive ProbeOrigin
  | automatic | manualFromAwait | manualFromHeld
  deriving DecidableEq, Repr

/-- The blocker view (R79, R93). -/
inductive BlockerView
  | empty | notEmpty
  deriving DecidableEq, Repr

/-- The eight configuration values of a span (R85): the restart interval in s, the probe time in tenths of a second,
the settle time and the ramp interval in ms. -/
structure SpanConfig where
  hazardLimit : Int
  restartInterval : Nat
  probeTime : Nat
  probeLimit : Nat
  settleTime : Nat
  rampDepth : Nat
  rampStep : Nat
  rampInterval : Nat
  deriving DecidableEq, Repr

/-- A span record (R79) with the span change number that stands beside it (R145). -/
structure Span where
  state : SpanState
  cause : SpanCause
  role : SpanRole
  failed : Nat
  honoured : Bool
  asserting : Bool
  remaining : Nat
  settle : Timer
  interval : Timer
  probeTimer : Timer
  rampTimer : Timer
  request : Timer
  seenDark : Bool
  seenShut : Bool
  seenMiswire : Bool
  view : BlockerView
  origin : Option ProbeOrigin
  config : SpanConfig
  changes : Word32
  deriving DecidableEq, Repr

/-- The span controller's four span records (R79). -/
structure SpanController where
  spans : Vector Span 4
  deriving DecidableEq, Repr

/-! ### Span word unit -/

/-- A far word as kept (R124) with the bits R180 has read into it: the flags are bits 4 to 0 of byte 3. -/
structure FarWord where
  ordinal : Ordinal
  degree : Degree
  zeros : BitVec 2
  code : BitVec 3
  flags : BitVec 5
  spare : Byte
  deriving DecidableEq, Repr

/-- A line record (R124): the last good far word, the four line-derived conditions as the span word unit has decided
them, the line timer, the recovery run, the three counts, the expected far ordinal, the receive state (no word open, or
the bytes of the open one), and the word most recently sent (R122, R133). -/
structure Line where
  far : Option FarWord
  lost : Bool
  shut : Bool
  lockout : Bool
  miswire : Bool
  timer : Timer
  recovery : Nat
  accepted : Nat
  mismatched : Nat
  discarded : Nat
  expected : Ordinal
  receiving : Option (List Byte)
  sent : Option (List Byte)
  deriving DecidableEq, Repr

/-- The span word unit: the own ordinal and four line records (R124). -/
structure WordUnit where
  own : Ordinal
  lines : Vector Line 4
  deriving DecidableEq, Repr

/-! ### Profile store -/

/-- The fifteen values of one degree in one profile (R134); the line timeout in ms. -/
structure Limits where
  darkLevel : Int
  darkHyst : Int
  darkRaise : Nat
  darkClear : Nat
  reflectLimit : Int
  reflectHyst : Int
  reflectRaise : Nat
  reflectClear : Nat
  outFloor : Int
  pumpLimit : Int
  pumpHyst : Int
  pumpRaise : Nat
  pumpClear : Nat
  lineTimeout : Nat
  autoRestart : Bool
  deriving DecidableEq, Repr

/-- A profile: its values per degree and its class mask (R134). -/
structure Profile where
  limits : Vector Limits 4
  mask : ClassMask
  deriving DecidableEq, Repr

/-- The profile store: both profiles and the active selector (R134). -/
structure ProfileStore where
  profiles : Vector Profile 2
  active : ProfileNo
  deriving DecidableEq, Repr

/-! ### Claim unit -/

/-- Why a claim last ended (R144). -/
inductive EndCause
  | reset | replaced | spanChange | condition | profile | resync | expired | consumed
  deriving DecidableEq, Repr

/-- The two numbers recorded for one degree of a claim (R145, R146). -/
structure Recorded where
  degree : Degree
  changes : Word32
  touch : Word32
  deriving DecidableEq, Repr

/-- A claim that is PRESENT: its degree set, its recorded numbers and the remaining life in ms (R144). -/
structure Standing where
  degrees : DegSet
  recorded : List Recorded
  life : Nat
  deriving DecidableEq, Repr

/-- The claim record (R144): ABSENT is `none`. -/
structure ClaimUnit where
  standing : Option Standing
  lastEnd : EndCause
  deriving DecidableEq, Repr

/-! ### Capture unit -/

/-- A sample of a history ring (R155). -/
structure Sample where
  pIn : Int
  pOut : Int
  dark : Bool
  refl : Bool
  deriving DecidableEq, Repr

/-- What a FILLING or COMPLETE buffer holds (R156): the pre-trigger samples, which fill the positions up to 63, and the
post-trigger samples, which fill those from 64. Both counts are the lengths. -/
structure Trace where
  degree : Degree
  key : Key
  at_ : Word32
  pre : List Sample
  post : List Sample
  deriving DecidableEq, Repr

/-- A capture buffer in one of the combinations of R156: EMPTY and FILLING are PART-owned, COMPLETE is READER-owned. -/
inductive Buffer
  | empty
  | filling (t : Trace)
  | complete (t : Trace)
  deriving DecidableEq, Repr

/-- The capture unit: the four history rings, oldest sample first (R155), the two buffers and the next-buffer pointer
(R156), and the buffer that the latest trigger took, by which the one triggered first completes first (R159,
notes/assumptions/20.md). -/
structure CaptureUnit where
  rings : Vector (List Sample) 4
  buffers : Vector Buffer 2
  pointer : BufferNo
  latest : BufferNo
  deriving DecidableEq, Repr

/-! ### Host link unit -/

/-- The cause in a START record (R171). -/
inductive ResetCause
  | powerOn | soft
  deriving DecidableEq, Repr

/-- A report record (R36, R101, R77, R160, R171); `at_` is its timestamp. A SOURCE report with a grant shows enable
HIGH, one without LOW. -/
inductive Report
  | raised (key : Key) (at_ : Word32) (matchCount : Nat) (primary : Option EntryNo)
  | cleared (key : Key) (at_ : Word32) (cause : ClearCause)
  | span (d : Degree) (old new : SpanState) (cause : SpanCause) (at_ : Word32)
  | source (i : SourceNo) (grant : Option Int) (reasons : BitVec 5) (at_ : Word32)
  | captureReady (b : BufferNo) (d : Degree) (key : Key) (triggered : Word32) (pre : Nat) (at_ : Word32)
  | captureSkipped (d : Degree) (key : Key) (at_ : Word32)
  | start (cause : ResetCause)
  deriving DecidableEq, Repr

/-- The receive framer's phase with the bytes of the partial frame (R165). -/
inductive FramerPhase
  | hunt
  | length
  | body (len : Byte) (kept : List Byte)
  deriving DecidableEq, Repr

/-- A complete frame's kind, tag and payload (R178). -/
structure Frame where
  kind : Byte
  tag : Byte
  payload : List Byte
  deriving DecidableEq, Repr

/-- The request in hand, and whether its reply has been formed (R168, R169). -/
structure InHand where
  frame : Frame
  answered : Bool
  deriving DecidableEq, Repr

/-- A reply that is formed and not yet completely sent: whether it is a BUSY reply, and its frame (R170). -/
structure Reply where
  busy : Bool
  bytes : List Byte
  deriving DecidableEq, Repr

/-- The host link unit: the framer and its gap timer (R165, R166), the two request slots (R168), the reply list (R170),
the report queue with its overflow mark (R171), the notify mask (R173) and the attention line (R174). -/
structure HostLink where
  phase : FramerPhase
  gap : Timer
  hand : Option InHand
  waiting : Option Frame
  replies : List Reply
  reports : List Report
  overflow : Bool
  notify : BitVec 4
  attention : Bool
  deriving DecidableEq, Repr

/-! ### In transit between blocks -/

/-- Which sources a restriction order addresses (R66). -/
inductive Target
  | one (i : SourceNo)
  | exposure (e : Exposure)
  | every
  deriving DecidableEq, Repr

/-- What the grant unit is handed: a restriction order (R66), a removal order (R69), a clear (R68). -/
inductive GrantEvent
  | restriction (t : Target) (c : Ceiling) (p : Persistence) (o : Origin)
  | removal (o : Origin)
  | clear (k : Key)
  deriving DecidableEq, Repr

/-- The cause a lock order carries (R90). -/
inductive LockCause
  | key | command
  deriving DecidableEq, Repr

/-- What the span controller is handed by the hazard map and the condition unit: a cut order (R89), a lock order (R90), a
clear with the degrees its record withheld (R21, R81), a re-examination of one degree (R93). -/
inductive SpanEvent
  | cut (d : Degree) (k : Key)
  | lock (d : Degree) (c : LockCause)
  | clear (k : Key) (withheld : DegSet)
  | reexamine (d : Degree)
  deriving DecidableEq, Repr

/-- What the span controller is handed by the span word unit for one degree: an accepted far word (R108), or a change of
the own ordinal and whether it was between 0 and a value above 0 (R132). -/
inductive LineEvent
  | farWord (w : FarWord)
  | ordinal (crossing : Bool)
  deriving DecidableEq, Repr

/-- What the condition unit is handed by the hazard map: a lookup's snapshot (R20) or a rewritten one (R143). -/
inductive SnapshotEvent
  | lookup (k : Key) (matched : List EntryNo) (withheld : DegSet)
  | rewritten (k : Key) (matched : List EntryNo) (withheld : DegSet)
  deriving DecidableEq, Repr

/-- What the claim unit is handed: a notice by the span controller or the condition unit (R147), or a break by the profile
store or the host link unit (R148). -/
inductive ClaimEvent
  | notice (n : Notice)
  | breakBy (c : BreakCause)
  deriving DecidableEq, Repr

/-- A report on its way to the queue. `afterSpan` marks a SOURCE report caused by a span state change, whose SPAN report
is queued before it (R83). -/
structure HandedReport where
  report : Report
  afterSpan : Bool
  deriving DecidableEq, Repr

/-- The events that one block has handed and the receiving block has not yet taken, oldest first in each channel. -/
structure Transit where
  toGrant : List GrantEvent
  toSpan : List SpanEvent
  fromLine : List (Degree × LineEvent)
  snapshots : List SnapshotEvent
  forced : List Degree
  zeroings : Nat
  toClaim : List ClaimEvent
  samples : List (Degree × Sample)
  triggers : List (Degree × Key)
  reports : List HandedReport
  frames : List Frame
  deriving DecidableEq, Repr

end Sys2Proof.Machine
end

