-- ==== Sys2Proof/Machine/CheckCodes.lean ====
section
/-! DEFINITION. The two check codes of R179, bit by bit from their generator polynomials. -/

namespace Sys2Proof.Machine

/-- One bit of the CRC-16 register: generator 1021h, not reflected (R179). -/
def crc16Bit (r : BitVec 16) : BitVec 16 := if r.msb then (r <<< 1) ^^^ 0x1021#16 else r <<< 1

/-- One byte enters the CRC-16 register, most significant bit first (R179). -/
def crc16Byte (r : BitVec 16) (b : Byte) : BitVec 16 :=
  crc16Bit (crc16Bit (crc16Bit (crc16Bit (crc16Bit (crc16Bit (crc16Bit (crc16Bit
    (r ^^^ (b.setWidth 16 <<< 8)))))))))

/-- The CRC-16 of a frame over its covered bytes: the register starts at FFFFh and is not inverted (R179). -/
def crc16 (l : List Byte) : BitVec 16 := l.foldl crc16Byte 0xFFFF#16

/-- One bit of the CRC-8 register: generator 07h, not reflected (R179). -/
def crc8Bit (r : BitVec 8) : BitVec 8 := if r.msb then (r <<< 1) ^^^ 0x07#8 else r <<< 1

/-- One byte enters the CRC-8 register, most significant bit first (R179). -/
def crc8Byte (r : BitVec 8) (b : Byte) : BitVec 8 :=
  crc8Bit (crc8Bit (crc8Bit (crc8Bit (crc8Bit (crc8Bit (crc8Bit (crc8Bit (r ^^^ b))))))))

/-- The CRC-8 of a span word over its covered bytes: the register starts at 00h (R179). -/
def crc8 (l : List Byte) : BitVec 8 := l.foldl crc8Byte 0x00#8

end Sys2Proof.Machine
end

