-- ==== Sys2Proof/WellFormed.lean ====
section
/-! DEFINITION. Which commands are well formed. Every operand of a fixed width is legal at the interface, since the
owning block refuses what is out of range. What can be ill formed is a list whose length is none that R169 and R181
let a payload have. -/

namespace Sys2Proof

/-- The degree list of CLAIM, RESUME, UNLOCK and PROBE_NOW: one or two bytes, and exactly `count` of them when the
count lies in its own range 1 … 2 (R169 step 2, R181). -/
def degreesFit (count : Byte) (degrees : List Byte) : Bool :=
  decide (1 ≤ degrees.length) && decide (degrees.length ≤ 2) &&
    (!(decide (1 ≤ count.toNat) && decide (count.toNat ≤ 2)) || decide (degrees.length = count.toNat))

/-- The action list of PUT_ENTRY: at most four, and exactly `count` of them when the count lies in its own range
0 … 4 (R169 step 2, R181). -/
def actionsFit (count : Byte) (actions : List RawAction) : Bool :=
  decide (actions.length ≤ 4) && (!decide (count.toNat ≤ 4) || decide (actions.length = count.toNat))

/-- A command that can arise: its lists have lengths that its payload can have. -/
def Instr.wellFormed : Instr → Bool
  | .putEntry _ _ _ _ count actions _ _ => actionsFit count actions
  | .resume count degrees => degreesFit count degrees
  | .unlock count degrees => degreesFit count degrees
  | .probeNow count _ degrees => degreesFit count degrees
  | .claim count degrees => degreesFit count degrees
  | .powerOnReset | .monitorReading .. | .historySample _ | .lookup | .snapshotWrite | .forcedClear _
  | .contactLevelChange _ | .debounceExpiry _ | .masterShutAssertion | .masterShutDeassertion | .clearDelayExpiry
  | .restrictionOrder | .clearAtGrantUnit | .removalOrder | .cutOrder | .lockOrder | .clearAtSpanController
  | .blockerReexamination | .settleExpiry _ | .intervalExpiry _ | .probeTimerExpiry _ | .requestTimerExpiry _
  | .rampStepExpiry _ | .farWordAtSpanController _ | .siteOrdinalChange _ | .spanWordSend _ | .spanWordReceived ..
  | .lineTimerExpiry _ | .captureTrigger _ | .claimNotice _ | .claimBreak _ | .claimLifeExpiry | .counterZeroing
  | .reevaluation | .rewrittenSnapshotWrite | .reportEnqueue _ | .hostByteReceived _ | .characterError | .resync
  | .gapTimerExpiry | .frameComplete | .replySent | .setChannel .. | .getReading .. | .setContact .. | .getContact
  | .getConditions .. | .parkEntry _ | .unparkEntry _ | .freeEntry _ | .getEntry _ | .testKey .. | .setSource ..
  | .holdSource .. | .releaseLatch _ | .getSource _ | .setSpan .. | .lock _ | .getSpan _ | .setSite .. | .getLine _
  | .setProfile .. | .getProfile .. | .selectProfile _ | .getClaim | .readCapture .. | .releaseCapture _ | .getCapture
  | .readReports | .setNotify _ | .identify | .resetPart => true

end Sys2Proof
end

