-- ==== Sys2Proof/Machine/Operands.lean ====
section
/-! DEFINITION. Reading the fields of a request payload (R177, R183, R184), clamping a numeric value to its range, the
request that a frame's kind and payload spell (R169, R181, R187), and the kind and payload that spell a request. -/

namespace Sys2Proof.Machine

/-! ### Fields -/

/-- A two-byte field, high byte first (R177). -/
def half (hi lo : Byte) : Half := hi ++ lo

/-- The two bytes of a field, high byte first (R177). -/
def halfBytes (h : Half) : List Byte := [h.extractLsb' 8 8, h.extractLsb' 0 8]

/-- An index byte below `n` (R177). -/
def index? (n : Nat) (b : Byte) : Option (Fin n) := if h : b.toNat < n then some ⟨b.toNat, h⟩ else none

/-- An index byte that may be absent: FFh is absent, any other value outside the range is refused (R177). -/
def optIndex? (n : Nat) (b : Byte) : Option (Option (Fin n)) :=
  if b = 0xFF#8 then some none else (index? n b).map some

/-- A set byte: bits 4 to 7 refuse it (R177). -/
def set? (b : Byte) : Option (BitVec 4) := if b.toNat < 16 then some (b.setWidth 4) else none

/-- The value of an integer clamped to a range (00_scope.md, Numeric configuration). -/
def clampInt (lo hi v : Int) : Int := max lo (min hi v)

/-- The value of a natural number clamped to a range. -/
def clampNat (lo hi v : Nat) : Nat := max lo (min hi v)

/-! ### Enumerations (R183) -/

def kindCode : Kind → Byte
  | .darkIn => 0 | .reflect => 1 | .pumpReflect => 2 | .monitorFault => 3 | .lineLost => 4 | .farShut => 5
  | .farLock => 6 | .miswire => 7 | .guardOpen => 8 | .keyOpen => 9 | .masterShut => 10

/-- The eleven kinds in the order of their codes. -/
def allKinds : List Kind :=
  [.darkIn, .reflect, .pumpReflect, .monitorFault, .lineLost, .farShut, .farLock, .miswire, .guardOpen, .keyOpen,
    .masterShut]

def kind? (b : Byte) : Option Kind := allKinds.find? fun k => kindCode k = b

def ceiling? (b : Byte) : Option Ceiling :=
  if b = 0 then some .off else if b = 1 then some .probe else if b = 2 then some .reduced else none

def persistence? (b : Byte) : Option Persistence :=
  if b = 0 then some .follow else if b = 1 then some .latch else none

def hold? (b : Byte) : Option Hold :=
  if b = 0 then some .off else if b = 1 then some .probe else if b = 2 then some .reduced
  else if b = 3 then some .none else none

def use? (b : Byte) : Option ContactUse :=
  if b = 0 then some .guard else if b = 1 then some .key else if b = 2 then some .unused else none

def level? (b : Byte) : Option Level := if b = 0 then some .low else if b = 1 then some .high else none

/-- A boolean or two-valued enumeration byte: 0 or 1. -/
def switch? (b : Byte) : Option Bool := if b = 0 then some false else if b = 1 then some true else none

/-- The exposure a SET_SOURCE gives; for ENCLOSED and UNUSED the degree is ignored (R62). -/
def exposure? (e d : Byte) : Option Exposure :=
  if e = 0 then (index? 4 d).map .out else if e = 1 then (index? 4 d).map .inn
  else if e = 2 then some .enclosed else if e = 3 then some .unused else none

/-! ### Keys (R40, R184) -/

/-- The degree of a channel (R1). -/
def chanDegree (c : ChannelNo) : Degree := ⟨c.val / 4, by omega⟩

/-- The role of a channel (R1). -/
def chanRole (c : ChannelNo) : Role :=
  if c.val % 4 = 0 then .inn else if c.val % 4 = 1 then .out else if c.val % 4 = 2 then .refl else .prefl

/-- The channel of a degree and a role number (R1). -/
def channel (d : Degree) (role : Fin 4) : ChannelNo := ⟨4 * d.val + role.val, by omega⟩

/-- The detail byte of a key, by its kind: a channel, a contact, or absent (R184). -/
def detail? (k : Kind) (b : Byte) : Option (Option Detail) :=
  if b = 0xFF#8 then some none
  else match k with
    | .monitorFault => (index? 16 b).map fun c => some (.channel c)
    | .guardOpen | .keyOpen => (index? 8 b).map fun c => some (.contact c)
    | .darkIn | .reflect | .pumpReflect | .lineLost | .farShut | .farLock | .miswire | .masterShut => none

/-- A key whose three parts are each in range. -/
def key? (r : RawKey) : Option Key :=
  match kind? r.kind, optIndex? 4 r.degree with
  | some k, some d => (detail? k r.detail).map fun t => { kind := k, degree := d, detail := t }
  | _, _ => none

/-- A MONITOR_FAULT channel given with a degree belongs to it (R40). -/
def channelFits (k : Key) : Bool :=
  match k.detail, k.degree with
  | some (.channel c), some d => chanDegree c == d
  | _, _ => true

/-- The key of an entry: some condition instance of its kind could carry it (R40). -/
def entryKey? (r : RawKey) : Option Key :=
  (key? r).filter fun k =>
    match k.kind with
    | .monitorFault => channelFits k
    | .masterShut => k.degree.isNone
    | .darkIn | .reflect | .pumpReflect | .lineLost | .farShut | .farLock | .miswire | .guardOpen | .keyOpen => true

/-- A tested key: the full key of one instance (R40). -/
def testedKey? (r : RawKey) : Option Key :=
  (key? r).filter fun k =>
    match k.kind with
    | .monitorFault => k.degree.isSome && k.detail.isSome && channelFits k
    | .guardOpen | .keyOpen => k.detail.isSome
    | .masterShut => k.degree.isNone
    | .darkIn | .reflect | .pumpReflect | .lineLost | .farShut | .farLock | .miswire => k.degree.isSome

/-- A source action (R42, R43). -/
def action? (r : RawAction) : Option Action :=
  match index? 16 r.source, ceiling? r.ceiling, persistence? r.persistence with
  | some i, some c, some p => some { source := i, ceiling := c, persistence := p }
  | _, _, _ => none

/-- The action list of an entry: no two actions name the same source (R42, R43). -/
def actions? (l : List RawAction) : Option (List Action) :=
  (l.mapM action?).filter fun as => decide (as.map Action.source).Nodup

/-- The degree set that CLAIM or a span commit names: a count of 1 or 2, degrees in range, none twice (R146, R150). -/
def degrees? (count : Byte) (l : List Byte) : Option DegSet :=
  if count.toNat = l.length ∧ 1 ≤ l.length ∧ l.length ≤ 2 then
    ((l.mapM (index? 4)).filter fun ds => decide ds.Nodup).map DegSet.ofList
  else none

/-! ### The request that a kind and a payload spell -/

/-- What the checks of R169 steps 1 and 2 give for a frame. -/
inductive RequestCheck
  | badKind
  | badLength
  | request (i : Instr)
  deriving DecidableEq, Repr

/-- The check of a payload that either spells a request or has a wrong length. -/
def RequestCheck.ofOption : Option Instr → RequestCheck
  | some i => .request i
  | none => .badLength

def noPayload (i : Instr) : List Byte → Option Instr
  | [] => some i
  | _ => none

/-- A payload of one byte. -/
def onePayload (f : Byte → Instr) : List Byte → Option Instr
  | [a] => some (f a)
  | _ => none

/-- A payload of two bytes. -/
def twoPayload (f : Byte → Byte → Instr) : List Byte → Option Instr
  | [a, b] => some (f a b)
  | _ => none

def setChannelPayload : List Byte → Option Instr
  | [c, d1, d0, g1, g0] => some (.setChannel c (half d1 d0) (half g1 g0))
  | _ => none

def setContactPayload : List Byte → Option Instr
  | [k, u, l, d, t] => some (.setContact k u l d t)
  | _ => none

/-- The actions at the head of the variable part of PUT_ENTRY, which ends in the cut set and the withhold set (R184). -/
def splitActions : List Byte → List RawAction × List Byte
  | a :: b :: c :: x :: y :: t =>
    let r := splitActions (x :: y :: t)
    ({ source := a, ceiling := b, persistence := c } :: r.1, r.2)
  | l => ([], l)

def putEntryPayload : List Byte → Option Instr
  | p :: t :: k :: d :: e :: c :: n :: rest =>
    if rest.length ≤ 14 ∧ (n.toNat ≤ 4 → rest.length = 3 * n.toNat + 2) then
      match splitActions rest with
      | (as, cut :: withhold :: _) => some (.putEntry p t { kind := k, degree := d, detail := e } c n as cut withhold)
      | _ => none
    else none
  | _ => none

def testKeyPayload : List Byte → Option Instr
  | [k, d, e, p, f] => some (.testKey { kind := k, degree := d, detail := e } p f)
  | _ => none

def setSourcePayload : List Byte → Option Instr
  | [i, e, d, f1, f0, r1, r0, p1, p0] => some (.setSource i e d (half f1 f0) (half r1 r0) (half p1 p0))
  | _ => none

def setSpanPayload : List Byte → Option Instr
  | [d, h1, h0, i1, i0, pt, pl, s1, s0, d1, d0, st1, st0, ri1, ri0] =>
    some (.setSpan d
      { hazardLimit := half h1 h0, restartInterval := half i1 i0, probeTime := pt, probeLimit := pl,
        settleTime := half s1 s0, rampDepth := half d1 d0, rampStep := half st1 st0, rampInterval := half ri1 ri0 })
  | _ => none

/-- A payload of a count and degrees (R181). -/
def degreesPayload (f : Byte → List Byte → Instr) : List Byte → Option Instr
  | n :: l => if degreesFit n l then some (f n l) else none
  | [] => none

def probeNowPayload : List Byte → Option Instr
  | n :: t :: l => if degreesFit n l then some (.probeNow n t l) else none
  | _ => none

def setSitePayload : List Byte → Option Instr
  | [o1, o0, a1, a0, b1, b0, c1, c0, d1, d0] =>
    some (.setSite (half o1 o0) (half a1 a0) (half b1 b0) (half c1 c0) (half d1 d0))
  | _ => none

def setProfilePayload : List Byte → Option Instr
  | [p, d, a1, a0, b1, b0, c1, c0, d1, d0, e1, e0, f1, f0, g1, g0, h1, h0, i1, i0, j1, j0, k1, k0, l1, l0, m1, m0,
      n1, n0, auto, mask] =>
    some (.setProfile p d
      { darkLevel := half a1 a0, darkHyst := half b1 b0, darkRaise := half c1 c0, darkClear := half d1 d0,
        reflectLimit := half e1 e0, reflectHyst := half f1 f0, reflectRaise := half g1 g0, reflectClear := half h1 h0,
        outFloor := half i1 i0, pumpLimit := half j1 j0, pumpHyst := half k1 k0, pumpRaise := half l1 l0,
        pumpClear := half m1 m0, lineTimeout := half n1 n0 } auto mask)
  | _ => none

/-- The request kinds of R181 from 01h to 11h. -/
def checkLow (kind : Nat) (p : List Byte) : Option (Option Instr) :=
  match kind with
  | 0x01 => some (setChannelPayload p)
  | 0x02 => some (twoPayload .getReading p)
  | 0x03 => some (setContactPayload p)
  | 0x04 => some (noPayload .getContact p)
  | 0x05 => some (twoPayload .getConditions p)
  | 0x06 => some (putEntryPayload p)
  | 0x07 => some (onePayload .parkEntry p)
  | 0x08 => some (onePayload .unparkEntry p)
  | 0x09 => some (onePayload .freeEntry p)
  | 0x0A => some (onePayload .getEntry p)
  | 0x0B => some (testKeyPayload p)
  | 0x0C => some (setSourcePayload p)
  | 0x0D => some (twoPayload .holdSource p)
  | 0x0E => some (onePayload .releaseLatch p)
  | 0x0F => some (onePayload .getSource p)
  | 0x10 => some (setSpanPayload p)
  | 0x11 => some (onePayload .lock p)
  | _ => none

/-- The request kinds of R181 from 13h to 24h. -/
def checkHigh (kind : Nat) (p : List Byte) : Option (Option Instr) :=
  match kind with
  | 0x13 => some (degreesPayload .resume p)
  | 0x14 => some (degreesPayload .unlock p)
  | 0x15 => some (onePayload .getSpan p)
  | 0x16 => some (probeNowPayload p)
  | 0x17 => some (setSitePayload p)
  | 0x18 => some (onePayload .getLine p)
  | 0x19 => some (setProfilePayload p)
  | 0x1A => some (twoPayload .getProfile p)
  | 0x1B => some (onePayload .selectProfile p)
  | 0x1C => some (degreesPayload .claim p)
  | 0x1D => some (noPayload .getClaim p)
  | 0x1E => some (twoPayload .readCapture p)
  | 0x1F => some (onePayload .releaseCapture p)
  | 0x20 => some (noPayload .getCapture p)
  | 0x21 => some (noPayload .readReports p)
  | 0x22 => some (onePayload .setNotify p)
  | 0x23 => some (noPayload .identify p)
  | 0x24 => some (noPayload .resetPart p)
  | _ => none

/-- The checks of R169 steps 1 and 2 on a kind and a payload: code 12h and every code not in R181's table are unknown
kinds. -/
def checkRequest (kind : Byte) (p : List Byte) : RequestCheck :=
  match checkLow kind.toNat p with
  | some o => .ofOption o
  | none =>
    match checkHigh kind.toNat p with
    | some o => .ofOption o
    | none => .badKind

/-! ### The kind and the payload that spell a request -/

/-- The bytes of an action (R184). -/
def actionBytes (a : RawAction) : List Byte := [a.source, a.ceiling, a.persistence]

/-- The kind code of a request command (R181); none for a command that is no request. -/
def requestKind : Instr → Option Byte
  | .setChannel .. => some 0x01 | .getReading .. => some 0x02 | .setContact .. => some 0x03 | .getContact => some 0x04
  | .getConditions .. => some 0x05 | .putEntry .. => some 0x06 | .parkEntry _ => some 0x07
  | .unparkEntry _ => some 0x08 | .freeEntry _ => some 0x09 | .getEntry _ => some 0x0A | .testKey .. => some 0x0B
  | .setSource .. => some 0x0C | .holdSource .. => some 0x0D | .releaseLatch _ => some 0x0E
  | .getSource _ => some 0x0F | .setSpan .. => some 0x10 | .lock _ => some 0x11 | .resume .. => some 0x13
  | .unlock .. => some 0x14 | .getSpan _ => some 0x15 | .probeNow .. => some 0x16 | .setSite .. => some 0x17
  | .getLine _ => some 0x18 | .setProfile .. => some 0x19 | .getProfile .. => some 0x1A
  | .selectProfile _ => some 0x1B | .claim .. => some 0x1C | .getClaim => some 0x1D | .readCapture .. => some 0x1E
  | .releaseCapture _ => some 0x1F | .getCapture => some 0x20 | .readReports => some 0x21 | .setNotify _ => some 0x22
  | .identify => some 0x23 | .resetPart => some 0x24
  | .powerOnReset | .monitorReading .. | .historySample _ | .lookup | .snapshotWrite | .forcedClear _
  | .contactLevelChange _ | .debounceExpiry _ | .masterShutAssertion | .masterShutDeassertion | .clearDelayExpiry
  | .restrictionOrder | .clearAtGrantUnit | .removalOrder | .cutOrder | .lockOrder | .clearAtSpanController
  | .blockerReexamination | .settleExpiry _ | .intervalExpiry _ | .probeTimerExpiry _ | .requestTimerExpiry _
  | .rampStepExpiry _ | .farWordAtSpanController _ | .siteOrdinalChange _ | .spanWordSend _ | .spanWordReceived ..
  | .lineTimerExpiry _ | .captureTrigger _ | .claimNotice _ | .claimBreak _ | .claimLifeExpiry | .counterZeroing
  | .reevaluation | .rewrittenSnapshotWrite | .reportEnqueue _ | .hostByteReceived _ | .characterError | .resync
  | .gapTimerExpiry | .frameComplete | .replySent => none

/-- The fourteen fields of a SET_PROFILE payload in order (R187). -/
def limitsFields (l : RawLimits) : List Half :=
  [l.darkLevel, l.darkHyst, l.darkRaise, l.darkClear, l.reflectLimit, l.reflectHyst, l.reflectRaise, l.reflectClear,
    l.outFloor, l.pumpLimit, l.pumpHyst, l.pumpRaise, l.pumpClear, l.lineTimeout]

/-- The payload of a request command (R184, R187); empty for a command that is no request. -/
def requestPayload : Instr → List Byte
  | .setChannel c d g => c :: halfBytes d ++ halfBytes g
  | .getReading f n => [f, n]
  | .setContact k u l d t => [k, u, l, d, t]
  | .getConditions p f => [p, f]
  | .putEntry p t k c n as cut withhold =>
    [p, t, k.kind, k.degree, k.detail, c, n] ++ as.flatMap actionBytes ++ [cut, withhold]
  | .parkEntry i => [i]
  | .unparkEntry i => [i]
  | .freeEntry i => [i]
  | .getEntry i => [i]
  | .testKey k p f => [k.kind, k.degree, k.detail, p, f]
  | .setSource i e d f r p => [i, e, d] ++ halfBytes f ++ halfBytes r ++ halfBytes p
  | .holdSource i h => [i, h]
  | .releaseLatch i => [i]
  | .getSource i => [i]
  | .setSpan d c =>
    d :: halfBytes c.hazardLimit ++ halfBytes c.restartInterval ++ [c.probeTime, c.probeLimit]
      ++ halfBytes c.settleTime ++ halfBytes c.rampDepth ++ halfBytes c.rampStep ++ halfBytes c.rampInterval
  | .lock d => [d]
  | .resume n l => n :: l
  | .unlock n l => n :: l
  | .getSpan d => [d]
  | .probeNow n t l => n :: t :: l
  | .setSite o a b c d => halfBytes o ++ halfBytes a ++ halfBytes b ++ halfBytes c ++ halfBytes d
  | .getLine d => [d]
  | .setProfile p d l a m => [p, d] ++ (limitsFields l).flatMap halfBytes ++ [a, m]
  | .getProfile p d => [p, d]
  | .selectProfile p => [p]
  | .claim n l => n :: l
  | .readCapture b p => [b, p]
  | .releaseCapture b => [b]
  | .setNotify m => [m]
  | .getContact | .getClaim | .getCapture | .readReports | .identify | .resetPart
  | .powerOnReset | .monitorReading .. | .historySample _ | .lookup | .snapshotWrite | .forcedClear _
  | .contactLevelChange _ | .debounceExpiry _ | .masterShutAssertion | .masterShutDeassertion | .clearDelayExpiry
  | .restrictionOrder | .clearAtGrantUnit | .removalOrder | .cutOrder | .lockOrder | .clearAtSpanController
  | .blockerReexamination | .settleExpiry _ | .intervalExpiry _ | .probeTimerExpiry _ | .requestTimerExpiry _
  | .rampStepExpiry _ | .farWordAtSpanController _ | .siteOrdinalChange _ | .spanWordSend _ | .spanWordReceived ..
  | .lineTimerExpiry _ | .captureTrigger _ | .claimNotice _ | .claimBreak _ | .claimLifeExpiry | .counterZeroing
  | .reevaluation | .rewrittenSnapshotWrite | .reportEnqueue _ | .hostByteReceived _ | .characterError | .resync
  | .gapTimerExpiry | .frameComplete | .replySent => []

end Sys2Proof.Machine
end

