-- ==== Sys2Proof/Machine/Layouts.lean ====
section
/-! DEFINITION. The byte layouts of what the part sends: frames (R178), result codes (R182), keys (R184), report records
(R186), and the span word in both directions (R180). Fields are encoded by R177 and enumerations by R183. -/

namespace Sys2Proof.Machine

/-! ### Result codes (R182) -/

def codeOk : Byte := 0x00
def codeClamped : Byte := 0x01
def codeBadKind : Byte := 0x10
def codeBadLength : Byte := 0x11
def codeBadValue : Byte := 0x12
def codeTableFull : Byte := 0x20
def codeNotFound : Byte := 0x21
def codeNotOwned : Byte := 0x22
def codeClaimLost : Byte := 0x30
def codeStateRefused : Byte := 0x31
def codeKeyOpen : Byte := 0x32
def codeBusy : Byte := 0x40

/-- OK, or CLAMPED where a value was clamped. -/
def okOrClamped (clamped : Bool) : Byte := if clamped then codeClamped else codeOk

/-! ### Fields (R177) -/

def byteOf (n : Nat) : Byte := BitVec.ofNat 8 n

/-- A signed power or difference. -/
def intBytes (v : Int) : List Byte := halfBytes (BitVec.ofInt 16 v)

def natBytes (n : Nat) : List Byte := halfBytes (BitVec.ofNat 16 n)

/-- A signed power, or 8000h where there is none (R185, R186). -/
def powerBytes : Option Int → List Byte
  | some v => intBytes v
  | none => [0x80, 0x00]

def wordBytes (w : Word32) : List Byte :=
  [w.extractLsb' 24 8, w.extractLsb' 16 8, w.extractLsb' 8 8, w.extractLsb' 0 8]

/-- A remaining time in ms; FFFFFFFFh marks a stopped timer. -/
def timerBytes : Timer → List Byte
  | some n => wordBytes (BitVec.ofNat 32 n)
  | none => [0xFF, 0xFF, 0xFF, 0xFF]

def boolByte (b : Bool) : Byte := if b then 1 else 0

/-- An index byte; FFh where it is absent. -/
def optByte {n : Nat} : Option (Fin n) → Byte
  | some i => byteOf i.val
  | none => 0xFF

def setByte (m : BitVec 4) : Byte := m.setWidth 8

/-! ### Codes of enumerations (R183) -/

def stateCode : SpanState → BitVec 3
  | .lit => 0 | .ramp => 1 | .probe => 2 | .await => 3 | .dark => 4 | .held => 5 | .locked => 6

def stateByte (s : SpanState) : Byte := (stateCode s).setWidth 8

def causeByte : SpanCause → Byte
  | .start => 0 | .cut => 1 | .blocked => 2 | .settled => 3 | .interval => 4 | .farRequest => 5 | .farProbe => 6
  | .manual => 7 | .confirmed => 8 | .probeTimeout => 9 | .exhausted => 10 | .rampDone => 11 | .roleClash => 12
  | .key => 13 | .command => 14 | .resume => 15 | .unlock => 16

def roleByte : SpanRole → Byte
  | .leading => 0 | .trailing => 1 | .unknown => 2

def originByte : Option ProbeOrigin → Byte
  | some .automatic => 0 | some .manualFromAwait => 1 | some .manualFromHeld => 2 | none => 0xFF

def ceilingByte : Ceiling → Byte
  | .off => 0 | .probe => 1 | .reduced => 2

def holdByte : Hold → Byte
  | .off => 0 | .probe => 1 | .reduced => 2 | .none => 3

def persistenceByte : Persistence → Byte
  | .follow => 0 | .latch => 1

def clearCauseByte : ClearCause → Byte
  | .normal => 0 | .spanDark => 1 | .reconfigured => 2

def useByte : ContactUse → Byte
  | .guard => 0 | .key => 1 | .unused => 2

def levelByte : Level → Byte
  | .low => 0 | .high => 1

def endCauseByte : EndCause → Byte
  | .reset => 0 | .replaced => 1 | .spanChange => 2 | .condition => 3 | .profile => 4 | .resync => 5 | .expired => 6
  | .consumed => 7

def resetCauseByte : ResetCause → Byte
  | .powerOn => 0 | .soft => 1

/-- Exposure and degree; the degree is FFh for ENCLOSED and UNUSED (R185). -/
def exposureBytes : Exposure → List Byte
  | .out d => [0, byteOf d.val] | .inn d => [1, byteOf d.val] | .enclosed => [2, 0xFF] | .unused => [3, 0xFF]

/-! ### Keys, actions and restrictions (R184, R185) -/

def detailByte : Option Detail → Byte
  | some (.channel c) => byteOf c.val | some (.contact k) => byteOf k.val | none => 0xFF

def keyBytes (k : Key) : List Byte := [kindCode k.kind, optByte k.degree, detailByte k.detail]

/-- One of the four action places of a GET_ENTRY reply: places beyond the count hold FFh, 00h, 00h (R184). -/
def actionPlace : Option Action → List Byte
  | some a => [byteOf a.source.val, ceilingByte a.ceiling, persistenceByte a.persistence]
  | none => [0xFF, 0x00, 0x00]

/-- A restriction record in a GET_SOURCE reply (R185). -/
def restrictionBytes (r : Restriction) : List Byte :=
  keyBytes r.origin.key ++
    [optByte r.origin.entry, ceilingByte r.ceiling, persistenceByte r.persistence, boolByte r.latched]

/-! ### Frames (R178) -/

/-- A frame: start byte, length, kind, tag, payload and CRC-16. -/
def frameBytes (kind tag : Byte) (payload : List Byte) : List Byte :=
  let covered := byteOf (payload.length + 2) :: kind :: tag :: payload
  0xA5 :: covered ++ halfBytes (crc16 covered)

/-- The reply to a request: its kind plus 80h, modulo 100h, and its tag (R169). -/
def replyBytes (f : Frame) (body : List Byte) : List Byte := frameBytes (f.kind + 0x80) f.tag body

/-! ### Report records (R186) -/

/-- The category of a record; START counts as SPAN (R171, R174). -/
def Report.category : Report → Category
  | .raised .. => .condition | .cleared .. => .condition | .span .. => .span | .source .. => .source
  | .captureReady .. => .capture | .captureSkipped .. => .capture | .start _ => .span

/-- A report record's fourteen bytes: the record kind, the timestamp, the fields, and zeros beyond them. The trigger age
is the low byte of its difference in ms (notes/assumptions/19.md). -/
def Report.bytes : Report → List Byte
  | .raised k t n p => 1 :: wordBytes t ++ keyBytes k ++ [0, byteOf n, optByte p, 0xFF, 0, 0]
  | .cleared k t c => 1 :: wordBytes t ++ keyBytes k ++ [1, 0xFF, 0xFF, clearCauseByte c, 0, 0]
  | .span d o n c t => 2 :: wordBytes t ++ [byteOf d.val, stateByte o, stateByte n, causeByte c, 0, 0, 0, 0, 0]
  | .source i g r t =>
    3 :: wordBytes t ++ [byteOf i.val, boolByte g.isSome] ++ powerBytes g
      ++ [if g.isSome then 0 else r.setWidth 8, 0, 0, 0, 0]
  | .captureReady b d k trig n t =>
    4 :: wordBytes t ++ [0, byteOf b.val, byteOf d.val] ++ keyBytes k ++ [byteOf n, (t - trig).setWidth 8, 0]
  | .captureSkipped d k t => 4 :: wordBytes t ++ [1, 0xFF, byteOf d.val] ++ keyBytes k ++ [0, 0, 0]
  | .start c => 5 :: wordBytes 0 ++ [resetCauseByte c, 0, 0, 0, 0, 0, 0, 0, 0]

/-! ### Span words (R180) -/

/-- The first five bytes of a span word. -/
def spanWordHead (own : Ordinal) (d : Degree) (code : BitVec 3) (flags : BitVec 5) : List Byte :=
  [0xC3, own.extractLsb' 4 8, own.extractLsb' 0 4 ++ BitVec.ofNat 2 d.val ++ 0#2, code ++ flags, 0x00]

/-- A span word: six bytes, the last the CRC-8 over bytes 1 to 4. -/
def spanWordBytes (own : Ordinal) (d : Degree) (code : BitVec 3) (flags : BitVec 5) : List Byte :=
  let head := spanWordHead own d code flags
  head ++ [crc8 (head.drop 1)]

/-- A received word of six bytes whose check code is right and whose state code is not 7; the zero bits and the spare
byte are read and play no part. -/
def farWord? : List Byte → Option FarWord
  | [_, b1, b2, b3, b4, b5] =>
    if crc8 [b1, b2, b3, b4] = b5 ∧ b3.extractLsb' 5 3 ≠ 7#3 then
      some { ordinal := b1 ++ b2.extractLsb' 4 4, degree := ⟨(b2.extractLsb' 2 2).toNat, (b2.extractLsb' 2 2).isLt⟩,
             zeros := b2.extractLsb' 0 2, code := b3.extractLsb' 5 3, flags := b3.extractLsb' 0 5, spare := b4 }
    else none
  | _ => none

end Sys2Proof.Machine
end

