-- ==== Sys2Proof/Machine/Flags.lean ====
section
/-! DEFINITION. The flags the part computes: the five flags of a span word (R123), the flags of a received word (R180),
and the attention line (R174). The off reasons of a grant (R73) stand with the grant in Machine/GrantOps.lean. -/

namespace Sys2Proof.Machine

/-! ### Flags of a far word: bits 4 to 0 of byte 3 (R180) -/

def FarWord.shut (w : FarWord) : Bool := w.flags.getLsbD 4
def FarWord.lightSeen (w : FarWord) : Bool := w.flags.getLsbD 3
def FarWord.probing (w : FarWord) : Bool := w.flags.getLsbD 2
def FarWord.probeReq (w : FarWord) : Bool := w.flags.getLsbD 1
def FarWord.lockout (w : FarWord) : Bool := w.flags.getLsbD 0

/-- The light states of a span are LIT, RAMP and PROBE; the others are its dark states (R80). -/
def SpanState.isLight : SpanState → Bool
  | .lit | .ramp | .probe => true
  | .await | .dark | .held | .locked => false

/-- The five flags of the word sent (R123): SHUT, LIGHT_SEEN, PROBING, PROBE_REQ, LOCKOUT, from bit 4 down to bit 0. -/
def sentFlags (st : SpanState) (asserting lightSeen : Bool) : BitVec 5 :=
  BitVec.ofBool (!st.isLight) ++ BitVec.ofBool lightSeen ++ BitVec.ofBool (st == .probe) ++ BitVec.ofBool asserting
    ++ BitVec.ofBool (st == .locked)

/-- The bit of a category in the notify mask (R177). -/
def maskBit : Category → Nat
  | .condition => 0 | .span => 1 | .source => 2 | .capture => 3

/-- The attention line: high while the queue holds a record whose category is in the mask (R174). -/
def attentionOf (reports : List Report) (mask : BitVec 4) : Bool :=
  reports.any fun r => mask.getLsbD (maskBit r.category)

end Sys2Proof.Machine
end

