-- ==== Sys2Proof/Machine/Defaults.lean ====
section
/-! DEFINITION. The values each block holds after a power-on reset, block by block, as the rules that own them state
them. The soft reset takes its run-time values from the same definitions (Sys2Proof/Machine/Resets.lean). -/

namespace Sys2Proof.Machine

/-- R4: dark offset 16, gain offset 0. -/
def defaultCalibration : Calibration := { dark := 16, gain := 0 }

/-- R10: present clear, raw code 0, both marks clear, value −6000. -/
def noReading : Reading := { present := false, raw := 0, valid := false, saturated := false, value := -6000 }

/-- R12: r = 0 with the held mark. -/
def noRatio : Ratio := { r := 0, evaluated := false }

/-- R4, R9, R10, R12. -/
def defaultFrontEnd : FrontEnd :=
  { calib := Vector.replicate 16 defaultCalibration, last := Vector.replicate 16 noReading,
    heldOut := Vector.replicate 4 none, ratio := Vector.replicate 4 noRatio }

/-- R23: CLEAR with counter 0. -/
def clearQualifier : Qualifier := { raised := false, counter := 0 }

/-- R30, with the input level HIGH, at which it reads closed (DESIGN CHOICE, notes/assumptions/11.md). -/
def defaultContact : Contact :=
  { use := .unused, openLevel := .low, degree := none, debounce := 20, accepted := false, timer := none,
    level := .high, waiting := none }

/-- R35, with the input not asserted (DESIGN CHOICE, notes/assumptions/11.md). -/
def defaultShut : MasterShut := { asserted := false, raised := false, delay := none }

/-- R18, R23, R30, R35, R145. -/
def defaultCondUnit : CondUnit :=
  { dark := Vector.replicate 4 clearQualifier, refl := Vector.replicate 4 clearQualifier,
    pump := Vector.replicate 4 clearQualifier, fault := Vector.replicate 16 clearQualifier,
    contacts := Vector.replicate 8 defaultContact, shut := defaultShut, active := [],
    touch := Vector.replicate 4 0 }

/-- R38, R49. -/
def defaultMap : HazardMap := { entries := Vector.replicate 64 .free, queue := [] }

/-- R59, R76; no floor order lost (notes/assumptions/30.md). -/
def defaultSource : Source :=
  { exposure := .unused, full := 1700, reduced := 1000, probe := 800, hold := .off, restrictions := [],
    overflow := false, lostShut := false, grant := none, enable := false, setpoint := -1000 }

/-- R59. -/
def defaultGrantUnit : GrantUnit := { sources := Vector.replicate 16 defaultSource }

/-- R85. -/
def defaultSpanConfig : SpanConfig :=
  { hazardLimit := 1000, restartInterval := 100, probeTime := 20, probeLimit := 5, settleTime := 500,
    rampDepth := 1500, rampStep := 100, rampInterval := 100 }

/-- R79, R145. -/
def defaultSpan : Span :=
  { state := .held, cause := .start, role := .unknown, failed := 0, honoured := false, asserting := false,
    remaining := 0, settle := none, interval := none, probeTimer := none, rampTimer := none, request := none,
    seenDark := false, seenShut := false, seenMiswire := false, view := .notEmpty, origin := none,
    config := defaultSpanConfig, changes := 0 }

/-- R79. -/
def defaultController : SpanController := { spans := Vector.replicate 4 defaultSpan }

/-- R134: the defaults both profiles share, with the auto-restart switch given. -/
def defaultLimits (auto : Bool) : Limits :=
  { darkLevel := -3000, darkHyst := 200, darkRaise := 8, darkClear := 400, reflectLimit := -1700,
    reflectHyst := 200, reflectRaise := 16, reflectClear := 400, outFloor := -1000, pumpLimit := 0,
    pumpHyst := 200, pumpRaise := 16, pumpClear := 400, lineTimeout := 30, autoRestart := auto }

/-- R134: OPERATE has auto-restart ON and the mask of classes 0 and 1. -/
def defaultOperate : Profile := { limits := Vector.replicate 4 (defaultLimits true), mask := 0b0011#4 }

/-- R134: SERVICE has auto-restart OFF and the mask of all four classes. -/
def defaultService : Profile := { limits := Vector.replicate 4 (defaultLimits false), mask := 0b1111#4 }

/-- R134. -/
def defaultStore : ProfileStore := { profiles := #v[defaultOperate, defaultService], active := 0 }

/-- R124, with the line timer running and no word sent yet (for the last: DESIGN CHOICE, notes/assumptions/12.md). -/
def defaultLine : Line :=
  { far := none, lost := false, shut := false, lockout := false, miswire := false, timer := some 30,
    recovery := 0, accepted := 0, mismatched := 0, discarded := 0, expected := 0, receiving := none, sent := none }

/-- R124. -/
def defaultWordUnit : WordUnit := { own := 0, lines := Vector.replicate 4 defaultLine }

/-- R144. -/
def defaultClaim : ClaimUnit := { standing := none, lastEnd := .reset }

/-- R155, R156; the latest trigger's buffer has no effect before a trigger (DESIGN CHOICE, notes/assumptions/20.md). -/
def defaultCapture : CaptureUnit :=
  { rings := Vector.replicate 4 [], buffers := Vector.replicate 2 .empty, pointer := 0, latest := 0 }

/-- R165, R166, R168, R170, R171, R173, R174: the queue holds the START record alone, and the attention line is high
because the mask holds SPAN, the category of START. -/
def defaultLink : HostLink :=
  { phase := .hunt, gap := none, hand := none, waiting := none, replies := [], reports := [.start .powerOn],
    overflow := false, notify := 0b1111#4, attention := true }

/-- Nothing in transit (DEDUCED, notes/assumptions/15.md). -/
def emptyTransit : Transit :=
  { toGrant := [], toSpan := [], fromLine := [], snapshots := [], forced := [], zeroings := 0, toClaim := [],
    samples := [], triggers := [], reports := [], frames := [] }

end Sys2Proof.Machine
end

