-- ==== Sys2Proof/Machine/State.lean ====
section
/-! DEFINITION. The state of the ASC-416: its ten blocks, the timestamp count, what stands in transit between the blocks,
and the model's own three fields (the command queue, the reply port and the free value counter). -/

namespace Sys2Proof.Machine

/-- The reasons a step can stop with a fault: none. The part has no fault and no exception: it refuses a request by a
result code, discards a wrong frame or word, and takes a hazard as a condition. Safe: nothing is left out by it. -/
inductive Fault
  deriving DecidableEq, Repr

/-- The reasons a step can be refused. -/
inductive Refusal
  /-- Raised by an arm of exec whose command has no meaning yet, and by nothing else. Safe: no claim can be proved of
  what such a command does. No arm raises it. -/
  | notModelled (mnemonic : String)
  deriving DecidableEq, Repr

/-- The whole state. `port`, `freeIndex` and `pending` are the model's own: the reply of a request command that was not
in the in-hand slot (notes/assumptions/7.md), the number of free values used (notes/assumptions/13.md), and the commands
that are waiting, first in, first out. -/
structure State where
  now : Word32
  front : FrontEnd
  cond : CondUnit
  map : HazardMap
  grant : GrantUnit
  ctrl : SpanController
  words : WordUnit
  store : ProfileStore
  claim : ClaimUnit
  capture : CaptureUnit
  link : HostLink
  transit : Transit
  port : Option (List Byte)
  freeIndex : Nat
  pending : List Instr
  deriving DecidableEq, Repr

/-- The part right after a power-on reset. -/
def State.reset : State :=
  { now := 0, front := defaultFrontEnd, cond := defaultCondUnit, map := defaultMap, grant := defaultGrantUnit,
    ctrl := defaultController, words := defaultWordUnit, store := defaultStore, claim := defaultClaim,
    capture := defaultCapture, link := defaultLink, transit := emptyTransit, port := none, freeIndex := 0,
    pending := [] }

end Sys2Proof.Machine
end

