-- ==== Sys2Proof/Machine/Ops.lean ====
section
/-! DEFINITION. The named operations over the state that every block uses: reading a record, writing one, handing an event
to another block, answering a request, and letting a millisecond pass. -/

namespace Sys2Proof.Machine

/-- What a command answers. -/
abbrev Result := Host.Outcome State Fault Refusal

/-! ### Reading -/

def State.span (s : State) (d : Degree) : Span := look s.ctrl.spans d

def State.source (s : State) (i : SourceNo) : Source := look s.grant.sources i

def State.line (s : State) (d : Degree) : Line := look s.words.lines d

def State.contact (s : State) (k : ContactNo) : Contact := look s.cond.contacts k

def State.entry (s : State) (e : EntryNo) : Entry := look s.map.entries e

/-- The active profile (R134). -/
def State.profile (s : State) : Profile := look s.store.profiles s.store.active

/-- The values of degree `d` in the active profile, as they stand when they are read (R134). -/
def State.limits (s : State) (d : Degree) : Limits := look s.profile.limits d

/-! ### Writing one record -/

def State.setSpan (s : State) (d : Degree) (r : Span) : State := { s with ctrl := { spans := put s.ctrl.spans d r } }

def State.setSource (s : State) (i : SourceNo) (r : Source) : State :=
  { s with grant := { sources := put s.grant.sources i r } }

def State.setLine (s : State) (d : Degree) (r : Line) : State :=
  { s with words := { s.words with lines := put s.words.lines d r } }

def State.setContact (s : State) (k : ContactNo) (r : Contact) : State :=
  { s with cond := { s.cond with contacts := put s.cond.contacts k r } }

def State.setEntry (s : State) (e : EntryNo) (r : Entry) : State :=
  { s with map := { s.map with entries := put s.map.entries e r } }

def State.setActive (s : State) (l : List CondRecord) : State := { s with cond := { s.cond with active := l } }

def State.setQueue (s : State) (q : List MapItem) : State := { s with map := { s.map with queue := q } }

def State.setShut (s : State) (m : MasterShut) : State := { s with cond := { s.cond with shut := m } }

def State.setClaim (s : State) (c : ClaimUnit) : State := { s with claim := c }

def State.setCapture (s : State) (c : CaptureUnit) : State := { s with capture := c }

def State.setLink (s : State) (l : HostLink) : State := { s with link := l }

/-! ### Handing an event to another block: it stands at the newest end of its channel -/

def State.handGrant (s : State) (e : GrantEvent) : State :=
  { s with transit := { s.transit with toGrant := s.transit.toGrant ++ [e] } }

def State.handSpan (s : State) (e : SpanEvent) : State :=
  { s with transit := { s.transit with toSpan := s.transit.toSpan ++ [e] } }

def State.handLine (s : State) (d : Degree) (e : LineEvent) : State :=
  { s with transit := { s.transit with fromLine := s.transit.fromLine ++ [(d, e)] } }

def State.handSnapshot (s : State) (e : SnapshotEvent) : State :=
  { s with transit := { s.transit with snapshots := s.transit.snapshots ++ [e] } }

def State.handForced (s : State) (d : Degree) : State :=
  { s with transit := { s.transit with forced := s.transit.forced ++ [d] } }

def State.handZeroing (s : State) : State :=
  { s with transit := { s.transit with zeroings := s.transit.zeroings + 1 } }

def State.handNotice (s : State) (n : Notice) : State :=
  { s with transit := { s.transit with toClaim := s.transit.toClaim ++ [.notice n] } }

def State.handBreak (s : State) (c : BreakCause) : State :=
  { s with transit := { s.transit with toClaim := s.transit.toClaim ++ [.breakBy c] } }

def State.handSample (s : State) (d : Degree) (x : Sample) : State :=
  { s with transit := { s.transit with samples := s.transit.samples ++ [(d, x)] } }

def State.handTrigger (s : State) (d : Degree) (k : Key) : State :=
  { s with transit := { s.transit with triggers := s.transit.triggers ++ [(d, k)] } }

/-- A report on its way to the queue (R171); `after` for a SOURCE report of a span state change (R83). -/
def State.handReport (s : State) (r : Report) (after : Bool) : State :=
  { s with transit := { s.transit with reports := s.transit.reports ++ [{ report := r, afterSpan := after }] } }

def State.handFrame (s : State) (f : Frame) : State :=
  { s with transit := { s.transit with frames := s.transit.frames ++ [f] } }

/-- The oldest event of degree `d` in a channel that keeps an order per degree. -/
def oldest {α : Type} (l : List (Degree × α)) (d : Degree) : Option α :=
  (l.find? fun e => e.1 == d).map Prod.snd

/-- The channel without its oldest event of degree `d`. -/
def dropOldest {α : Type} (l : List (Degree × α)) (d : Degree) : List (Degree × α) := l.eraseP fun e => e.1 == d

/-! ### The claim record and the counts that guard it -/

/-- The claim becomes ABSENT with a cause; an ABSENT claim keeps its last end cause (R144). -/
def State.endClaim (s : State) (c : EndCause) : State :=
  match s.claim.standing with
  | some _ => s.setClaim { standing := none, lastEnd := c }
  | none => s

/-- The condition touch number of the degree a key carries goes up by one, or of all four when it carries none (R145). -/
def State.touch (s : State) (d : Option Degree) : State :=
  { s with cond := { s.cond with touch :=
      match d with
      | some d => put s.cond.touch d (look s.cond.touch d + 1)
      | none => Vector.ofFn fun i => look s.cond.touch i + 1 } }

/-! ### Answering a request -/

/-- The request in hand that its owning block has not taken yet, as a command (R169 step 3). -/
def State.awaits (s : State) : Option Instr :=
  match s.link.hand with
  | some h =>
    if h.answered then none
    else match checkRequest h.frame.kind h.frame.payload with
      | .request i => some i
      | .badKind | .badLength => none
  | none => none

/-- The reply of the in-hand request is formed: it takes its place at the end of the reply list (R170). -/
def State.replyInHand (s : State) (body : List Byte) : State :=
  match s.link.hand with
  | some h =>
    s.setLink { s.link with
      hand := some { h with answered := true }
      replies := s.link.replies ++ [{ busy := false, bytes := replyBytes h.frame body }] }
  | none => s

/-- The reply to request command `i`, formed in the event that takes it (R169). Where `i` is the request in hand, the
reply goes into the reply list under its tag; a request command that stands in no slot leaves its reply at the port
(DESIGN CHOICE, notes/assumptions/7.md). -/
def State.answer (s : State) (i : Instr) (body : List Byte) : State :=
  if s.awaits = some i then s.replyInHand body else { s with port := some body }

/-- A request's event: its owning block's change of state and the reply it forms (R169 step 3). -/
def State.serve (i : Instr) (r : State × List Byte) : State := r.1.answer i r.2

/-- A request whose lists have a length that no payload of its kind has is refused by the host link unit (R169 step 2). -/
def refuseIllFormed (fits : Bool) (s : State) (r : State × List Byte) : State × List Byte :=
  if fits then r else (s, [codeBadLength])

/-! ### Time -/

/-- One ms passes for a timer; at 0 it waits for its expiry to be taken (notes/assumptions/2.md). -/
def tickTimer (t : Timer) : Timer := t.map fun n => n - 1

def tickContact (c : Contact) : Contact := { c with timer := tickTimer c.timer }

def tickSpan (r : Span) : Span :=
  { r with settle := tickTimer r.settle, interval := tickTimer r.interval, probeTimer := tickTimer r.probeTimer,
           rampTimer := tickTimer r.rampTimer, request := tickTimer r.request }

def tickLine (r : Line) : Line := { r with timer := tickTimer r.timer }

/-- One millisecond passes: the timestamp count goes up by one and wraps, and every running timer has one ms less to run
(00_scope.md, Units; DESIGN CHOICE, notes/assumptions/1.md). -/
def State.tick (s : State) : State :=
  { s with
    now := s.now + 1
    cond := { s.cond with
      contacts := Vector.ofFn fun k => tickContact (look s.cond.contacts k)
      shut := { s.cond.shut with delay := tickTimer s.cond.shut.delay } }
    ctrl := { spans := Vector.ofFn fun d => tickSpan (look s.ctrl.spans d) }
    words := { s.words with lines := Vector.ofFn fun d => tickLine (look s.words.lines d) }
    claim := { s.claim with standing := s.claim.standing.map fun c => { c with life := c.life - 1 } }
    link := { s.link with gap := tickTimer s.link.gap } }

end Sys2Proof.Machine
end

