-- ==== Sys2Proof/Machine/Captures.lean ====
section
/-! DEFINITION. Capture unit (spec 10): HISTORY_SAMPLE, CAPTURE_TRIGGER, and the requests READ_CAPTURE, RELEASE_CAPTURE,
GET_CAPTURE. -/

namespace Sys2Proof.Machine

/-! ### Samples -/

/-- The capacity of a ring, and of each half of a trace (R155, R156). -/
def ringCapacity : Nat := 64

/-- A ring with a sample at its newest end; of more than 64 the oldest goes (R155). -/
def appendSample (l : List Sample) (x : Sample) : List Sample :=
  (l ++ [x]).drop (l.length + 1 - ringCapacity)

/-- The buffer that is not `b`. -/
def otherBuffer (b : BufferNo) : BufferNo := if b = 0 then 1 else 0

/-- A sample of degree `d` reaches buffer `b` (R159): a FILLING buffer of the degree takes it, and the 64th completes
it, sets the pointer to the other buffer and hands the READY report on. -/
def State.fillBuffer (d : Degree) (x : Sample) (s : State) (b : BufferNo) : State :=
  match look s.capture.buffers b with
  | .filling t =>
    if t.degree = d then
      let u : Trace := { t with post := t.post ++ [x] }
      if u.post.length < ringCapacity then
        s.setCapture { s.capture with buffers := put s.capture.buffers b (.filling u) }
      else
        (s.setCapture { s.capture with buffers := put s.capture.buffers b (.complete u), pointer := otherBuffer b })
          |>.handReport (.captureReady b d t.key t.at_ t.pre.length s.now) false
    else s
  | .empty | .complete _ => s

/-- A sample of degree `d` (R155, R159). Where both buffers take it the one triggered first takes it first, so that it
completes first (DEDUCED, notes/assumptions/20.md). -/
def State.takeSample (s : State) (d : Degree) (x : Sample) : State :=
  [otherBuffer s.capture.latest, s.capture.latest].foldl (State.fillBuffer d x)
    (s.setCapture { s.capture with rings := put s.capture.rings d (appendSample (look s.capture.rings d) x) })

/-- HISTORY_SAMPLE (R155): the oldest sample of the degree in transit. -/
def execHistorySample (d : Degree) (s : State) : Result :=
  match oldest s.transit.samples d with
  | some x =>
    .next (({ s with transit := { s.transit with samples := dropOldest s.transit.samples d } } : State).takeSample d x)
  | none => .next s

/-! ### Triggers -/

/-- A PART-owned buffer that is EMPTY. -/
def Buffer.isEmpty : Buffer → Bool
  | .empty => true
  | .filling _ | .complete _ => false

/-- The buffer a trigger chooses (R157). -/
def CaptureUnit.choose (c : CaptureUnit) : Option BufferNo :=
  if (look c.buffers c.pointer).isEmpty then some c.pointer
  else if (look c.buffers (otherBuffer c.pointer)).isEmpty then some (otherBuffer c.pointer)
  else none

/-- A capture trigger (R157, R158, R160). -/
def State.takeTrigger (s : State) (d : Degree) (k : Key) : State :=
  match s.capture.choose with
  | some b =>
    let t : Trace := { degree := d, key := k, at_ := s.now, pre := look s.capture.rings d, post := [] }
    s.setCapture { s.capture with buffers := put s.capture.buffers b (.filling t), latest := b }
  | none => s.handReport (.captureSkipped d k s.now) false

/-- CAPTURE_TRIGGER (R157): the oldest trigger of the degree in transit. -/
def execCaptureTrigger (d : Degree) (s : State) : Result :=
  match oldest s.transit.triggers d with
  | some k =>
    .next (({ s with transit := { s.transit with triggers := dropOldest s.transit.triggers d } } : State).takeTrigger d k)
  | none => .next s

/-! ### Requests -/

/-- The sample at position `p` of a trace, 0 to 127 (R156, R158). -/
def Trace.at? (t : Trace) (p : Nat) : Option Sample :=
  if p < 64 then (if 64 ≤ p + t.pre.length then t.pre[p + t.pre.length - 64]? else none) else t.post[p - 64]?

/-- One of the sixteen positions of a page (R186). -/
def positionBytes : Option Sample → List Byte
  | some x => intBytes x.pIn ++ intBytes x.pOut ++ [0#6 ++ BitVec.ofBool x.refl ++ BitVec.ofBool x.dark]
  | none => [0, 0, 0, 0, 0x80]

/-- The READ_CAPTURE reply for a trace (R161, R186). -/
def pageBytes (b page : Byte) (t : Trace) : List Byte :=
  [codeOk, b, byteOf t.degree.val] ++ keyBytes t.key ++ wordBytes t.at_ ++ [byteOf t.pre.length, page]
    ++ (List.range 16).flatMap fun n => positionBytes (t.at? (16 * page.toNat + n))

/-- READ_CAPTURE (R161). -/
def State.takeReadCapture (s : State) (b page : Byte) : State × List Byte :=
  match index? 2 b, index? 8 page with
  | some n, some _ =>
    match look s.capture.buffers n with
    | .complete t => (s, pageBytes b page t)
    | .empty | .filling _ => (s, [codeNotOwned])
  | _, _ => (s, [codeBadValue])

def execReadCapture (b page : Byte) (s : State) : Result :=
  .next (State.serve (.readCapture b page) (s.takeReadCapture b page))

/-- RELEASE_CAPTURE (R162). -/
def State.takeReleaseCapture (s : State) (b : Byte) : State × List Byte :=
  match index? 2 b with
  | none => (s, [codeBadValue])
  | some n =>
    match look s.capture.buffers n with
    | .complete _ => (s.setCapture { s.capture with buffers := put s.capture.buffers n .empty }, [codeOk])
    | .empty | .filling _ => (s, [codeNotOwned])

def execReleaseCapture (b : Byte) (s : State) : Result :=
  .next (State.serve (.releaseCapture b) (s.takeReleaseCapture b))

/-- A buffer record of a GET_CAPTURE reply: owner, phase and content (R187). -/
def bufferBytes : Buffer → List Byte
  | .empty => [0, 0, 0xFF, 0xFF, 0xFF, 0xFF, 0, 0, 0, 0, 0, 0]
  | .filling t => [0, 1, byteOf t.degree.val] ++ keyBytes t.key ++ wordBytes t.at_
      ++ [byteOf t.pre.length, byteOf t.post.length]
  | .complete t => [1, 2, byteOf t.degree.val] ++ keyBytes t.key ++ wordBytes t.at_
      ++ [byteOf t.pre.length, byteOf t.post.length]

/-- GET_CAPTURE (R163, R187). -/
def State.takeGetCapture (s : State) : State × List Byte :=
  (s, [codeOk, byteOf s.capture.pointer.val] ++ bufferBytes (look s.capture.buffers 0)
    ++ bufferBytes (look s.capture.buffers 1)
    ++ (List.finRange 4).map fun d => byteOf (look s.capture.rings d).length)

def execGetCapture (s : State) : Result := .next (State.serve .getCapture s.takeGetCapture)

end Sys2Proof.Machine
end

