-- ==== Sys2Proof/Machine/ConditionOps.lean ====
section
/-! DEFINITION. The condition unit's shared operations: qualifiers (R23 to R28), the raise (R19), the clear with its
deferral (R21, R22), and the condition of a contact (R22, R32, R33). -/

namespace Sys2Proof.Machine

/-! ### Keys of the instances (R17) -/

/-- The key of a per-degree kind. -/
def degreeKey (k : Kind) (d : Degree) : Key := { kind := k, degree := some d, detail := none }

/-- The key of MONITOR_FAULT for a channel. -/
def faultKey (c : ChannelNo) : Key :=
  { kind := .monitorFault, degree := some (chanDegree c), detail := some (.channel c) }

def shutKey : Key := { kind := .masterShut, degree := none, detail := none }

/-- The key of a contact's condition under its present configuration: none for an UNUSED contact. -/
def contactKey? (n : ContactNo) (c : Contact) : Option Key :=
  match c.use with
  | .guard => some { kind := .guardOpen, degree := c.degree, detail := some (.contact n) }
  | .key => some { kind := .keyOpen, degree := c.degree, detail := some (.contact n) }
  | .unused => none

/-! ### The active condition list (R18) -/

/-- The primary of a matched list: its lowest index (R51). -/
def primaryOf (l : List EntryNo) : Option EntryNo := l.head?

/-- The record with key `k`. -/
def State.record? (s : State) (k : Key) : Option CondRecord := s.cond.active.find? fun r => r.key == k

/-- The list with every record of key `k` changed by `f`; no two records carry equal keys. -/
def State.updateRecord (s : State) (k : Key) (f : CondRecord → CondRecord) : State :=
  s.setActive (s.cond.active.map fun r => if r.key = k then f r else r)

/-! ### Raise and clear -/

/-- The raise of an instance (R19): a pending record at the newest end, the key to the hazard map, the notice to the
claim unit. A record that stands pending with its clear-due mark set takes the raise by losing the mark, with no report
(R22). -/
def State.raise (s : State) (k : Key) : State :=
  match s.record? k with
  | some r => if r.pending && r.clearDue.isSome then s.updateRecord k fun x => { x with clearDue := none } else s
  | none =>
    let r : CondRecord :=
      { key := k, raisedAt := s.now, pending := true, clearDue := none, matched := [], withheld := 0 }
    (((s.setActive (s.cond.active ++ [r])).setQueue (s.map.queue ++ [.key k])).touch k.degree).handNotice
      (.condition k.degree)

/-- The raise of a contact that waits for this record's clear is taken directly after it (R22). -/
def State.takeWaitingRaise (s : State) (k : Key) : State :=
  match k.detail with
  | some (.contact n) =>
    match (s.contact n).waiting with
    | some w => (s.setContact n { s.contact n with waiting := none }).raise w
    | none => s
  | some (.channel _) | none => s

/-- The clear of an instance whose record is not pending (R21): the record leaves, its report is handed on, then the key
to the grant unit, to the span controller with the degrees the record withheld, and to the claim unit. -/
def State.takeClear (s : State) (r : CondRecord) (c : ClearCause) : State :=
  ((((((s.setActive (s.cond.active.filter fun x => x.key != r.key)).handReport (.cleared r.key s.now c) false).handGrant
    (.clear r.key)).handSpan (.clear r.key r.withheld)).touch r.key.degree).handNotice
      (.condition r.key.degree)).takeWaitingRaise r.key

/-- A clear falls due: taken at once, or deferred with its cause while the record is pending (R21, R22); without a record
it has no effect (R21). -/
def State.clearDue (s : State) (k : Key) (c : ClearCause) : State :=
  match s.record? k with
  | none => s
  | some r => if r.pending then s.updateRecord k fun x => { x with clearDue := some c } else s.takeClear r c

/-! ### Qualifiers -/

/-- One input to a qualifier: its new state and whether a raise (true) or a clear (false) is decided (R23). -/
def Qualifier.take (q : Qualifier) (raiseCount clearCount : Nat) : Side → Qualifier × Option Bool
  | .hold => (q, none)
  | .band => ({ q with counter := 0 }, none)
  | .hazard =>
    if q.raised then ({ q with counter := 0 }, none)
    else if raiseCount ≤ q.counter + 1 then ({ raised := true, counter := 0 }, some true)
    else ({ q with counter := q.counter + 1 }, none)
  | .safe =>
    if q.raised then
      if clearCount ≤ q.counter + 1 then ({ raised := false, counter := 0 }, some false)
      else ({ q with counter := q.counter + 1 }, none)
    else ({ q with counter := 0 }, none)

/-- What a qualifier has decided is taken for its instance (R23). -/
def State.decided (s : State) (k : Key) : Option Bool → State
  | some true => s.raise k
  | some false => s.clearDue k .normal
  | none => s

/-- The side of a value whose hazard lies below a level (R25). -/
def sideBelow (v level hyst : Int) : Side := if v < level then .hazard else if level + hyst ≤ v then .safe else .band

/-- The side of a value whose hazard lies above a limit (R26, R27). -/
def sideAbove (v limit hyst : Int) : Side := if limit < v then .hazard else if v ≤ limit - hyst then .safe else .band

/-- The DARK_IN(d) qualifier takes P(D.IN) (R25). -/
def State.feedDark (s : State) (d : Degree) (v : Int) : State :=
  let l := s.limits d
  let q := (look s.cond.dark d).take l.darkRaise l.darkClear (sideBelow v l.darkLevel l.darkHyst)
  ({ s with cond := { s.cond with dark := put s.cond.dark d q.1 } } : State).decided (degreeKey .darkIn d) q.2

/-- The side a ratio record lies on: a hold, or the side of r (R26). -/
def ratioSide (l : Limits) (x : Ratio) : Side :=
  if x.evaluated then sideAbove x.r l.reflectLimit l.reflectHyst else .hold

/-- The REFLECT(d) qualifier takes the ratio or a hold (R26). -/
def State.feedReflect (s : State) (d : Degree) (x : Ratio) : State :=
  let l := s.limits d
  let q := (look s.cond.refl d).take l.reflectRaise l.reflectClear (ratioSide l x)
  ({ s with cond := { s.cond with refl := put s.cond.refl d q.1 } } : State).decided (degreeKey .reflect d) q.2

/-- The PUMP_REFLECT(d) qualifier takes P(D.PREFL) (R27). -/
def State.feedPump (s : State) (d : Degree) (v : Int) : State :=
  let l := s.limits d
  let q := (look s.cond.pump d).take l.pumpRaise l.pumpClear (sideAbove v l.pumpLimit l.pumpHyst)
  ({ s with cond := { s.cond with pump := put s.cond.pump d q.1 } } : State).decided (degreeKey .pumpReflect d) q.2

/-- The fixed counts of the MONITOR_FAULT qualifiers (R24). -/
def faultRaise : Nat := 4
def faultClear : Nat := 400

/-- The MONITOR_FAULT qualifier of a channel takes a fault reading or a good one (R28). -/
def State.feedFault (s : State) (c : ChannelNo) (isFault : Bool) : State :=
  let q := (look s.cond.fault c).take faultRaise faultClear (if isFault then .hazard else .safe)
  ({ s with cond := { s.cond with fault := put s.cond.fault c q.1 } } : State).decided (faultKey c) q.2

/-! ### Contacts -/

/-- The input reads open when its level is the configured open level (R30). -/
def Contact.readsOpen (c : Contact) : Bool := c.level == c.openLevel

/-- The record of contact `n` in the list: a contact has at most one (R22). -/
def State.contactRecord? (s : State) (n : ContactNo) : Option CondRecord :=
  s.cond.active.find? fun r => r.key.detail == some (.contact n)

/-- A raise decided for contact `n` under key `k`. It waits where another record of the contact stands pending with its
clear-due mark set under a different key (R22). -/
def State.contactRaise (s : State) (n : ContactNo) (k : Key) : State :=
  match s.contactRecord? n with
  | some r =>
    if r.pending && r.clearDue.isSome && r.key != k then s.setContact n { s.contact n with waiting := some k }
    else s.raise k
  | none => s.raise k

/-- A clear decided for contact `n`: it cancels a raise that waits; otherwise it is the clear of the contact's record,
under the key it was raised with, unless that clear has fallen due already (R22, R32, R33). -/
def State.contactClear (s : State) (n : ContactNo) (c : ClearCause) : State :=
  match (s.contact n).waiting with
  | some _ => s.setContact n { s.contact n with waiting := none }
  | none =>
    match s.contactRecord? n with
    | some r => if r.clearDue.isSome then s else s.clearDue r.key c
    | none => s

end Sys2Proof.Machine
end

