-- ==== Sys2Proof/Machine/GrantOps.lean ====
section
/-! DEFINITION. The grant unit's shared operations: effective values (R61), the span ceiling (R71), the grant and its off
reasons (R73), recomputation with the drive port and the SOURCE report (R74, R76, R77), and what an order, a removal and
a clear do to one collection (R66 to R70). -/

namespace Sys2Proof.Machine

/-- The degree of an exposed source (R60). -/
def Exposure.degree : Exposure → Option Degree
  | .out d => some d
  | .inn d => some d
  | .enclosed => none
  | .unused => none

/-- The effective reduced value (R61). -/
def Source.effReduced (x : Source) : Int := min x.reduced x.full

/-- The effective probe value: bounded by the hazard limit of the exposure degree for an exposed source (R61). -/
def effProbe (spans : Vector Span 4) (x : Source) : Int :=
  match x.exposure with
  | .out d => min (min x.probe x.full) (look spans d).config.hazardLimit
  | .inn d => min (min x.probe x.full) (look spans d).config.hazardLimit
  | .enclosed => min x.probe x.full
  | .unused => min x.probe x.full

/-- The ramp value: the higher of the effective probe value and the full setpoint less the ramp remaining (R71). -/
def rampValue (spans : Vector Span 4) (x : Source) (remaining : Nat) : Int :=
  max (effProbe spans x) (x.full - remaining)

/-- The span ceiling of a source (R71). -/
def spanCeiling (spans : Vector Span 4) (x : Source) : SpanCeiling :=
  match x.exposure with
  | .out d =>
    match (look spans d).state with
    | .lit => .unbounded
    | .ramp => .value (rampValue spans x (look spans d).remaining)
    | .probe => .value (effProbe spans x)
    | .await | .dark | .held | .locked => .off
  | .inn d =>
    match (look spans d).state with
    | .lit => .unbounded
    | .ramp => .value (rampValue spans x (look spans d).remaining)
    | .probe | .await | .dark | .held | .locked => .off
  | .enclosed | .unused => .unbounded

/-- The off reasons that hold (R73), coded as R185 lays them out: bit 0 UNUSED, bit 1 OVERFLOW, bit 2 HOLD, bit 3 SPAN,
bit 4 RESTRICTION. -/
def offReasons (spans : Vector Span 4) (x : Source) : BitVec 5 :=
  BitVec.ofBool (x.restrictions.any fun r => r.ceiling == .off)
    ++ BitVec.ofBool (spanCeiling spans x == .off)
    ++ BitVec.ofBool (x.hold == .off)
    ++ BitVec.ofBool x.overflow
    ++ BitVec.ofBool (x.exposure == .unused)

/-- The bound a ceiling of PROBE or REDUCED puts on the grant; a ceiling of OFF is an off reason (R73). -/
def ceilingBound (spans : Vector Span 4) (x : Source) : Ceiling → Int
  | .reduced => x.effReduced
  | .probe => effProbe spans x
  | .off => x.full

/-- The terms of the grant beside the full setpoint (R73). -/
def grantTerms (spans : Vector Span 4) (x : Source) : List Int :=
  (match spanCeiling spans x with
    | .value v => [v]
    | .unbounded | .off => [])
  ++ (match x.hold with
    | .reduced => [x.effReduced]
    | .probe => [effProbe spans x]
    | .none | .off => [])
  ++ x.restrictions.map fun r => ceilingBound spans x r.ceiling

/-- The grant: OFF if an off reason holds, otherwise the lowest of its terms (R73). It is OFF too while a floor order of
MASTER_SHUT is lost: R75 keeps every grant OFF until the clear of MASTER_SHUT, also where R67 has cleared the overflow
mark before it (DESIGN CHOICE, notes/assumptions/30.md). -/
def grantOf (spans : Vector Span 4) (x : Source) : Option Int :=
  if offReasons spans x = 0 ∧ x.lostShut = false then some ((grantTerms spans x).foldl min x.full) else none

/-- The port's setpoint output: the grant, or −1000 while the enable line is low (R76). -/
def setpointOf (g : Option Int) : Int := g.getD (-1000)

/-- The grant of source `i` is recomputed and its port set; a SOURCE report is handed on when the enable line changes;
a recomputation that gives the same grant changes nothing (R74, R76, R77). DESIGN CHOICE, unsafe: where several orders of
one lookup reach a source, the report carries the reasons that hold at the order which lowers the line (R66, R77), not those
that hold after the lookup's last order, as the worked example of an overflow has it (notes/assumptions/35.md). -/
def State.recompute (after : Bool) (s : State) (i : SourceNo) : State :=
  let x := s.source i
  let g := grantOf s.ctrl.spans x
  if g = x.grant then s
  else
    let t := s.setSource i { x with grant := g, enable := g.isSome, setpoint := setpointOf g }
    if g.isSome = x.enable then t
    else t.handReport (.source i g (offReasons s.ctrl.spans x) s.now) after

/-- Recomputation of several sources, in the order given: ascending, so that one event queues its SOURCE reports in
ascending source number (R77). -/
def State.recomputeAll (after : Bool) (s : State) (l : List SourceNo) : State := l.foldl (State.recompute after) s

/-- The sixteen sources in ascending order. -/
def allSources : List SourceNo := List.finRange 16

/-- The sources exposed on degree `d`, ascending (R60, R72). -/
def State.exposedOn (s : State) (d : Degree) : List SourceNo :=
  allSources.filter fun i => (s.source i).exposure.degree == some d

/-- The sources a restriction order addresses, as their records stand when it is taken (R66). -/
def State.addressed (s : State) : Target → List SourceNo
  | .one i => [i]
  | .exposure e => allSources.filter fun i => (s.source i).exposure == e
  | .every => allSources

/-- The capacity of a restriction collection (R65). -/
def collectionCapacity : Nat := 8

/-- The origin of MASTER_SHUT's floor order (R75). -/
def shutFloor : Origin := { key := shutKey, entry := none }

/-- What a restriction order does to one source's collection (R66): replace an equal origin, add a record, or set the
overflow mark (R67). MASTER_SHUT's floor order that is not stored is kept in mind until its clear (R75,
notes/assumptions/30.md). -/
def Source.takeOrder (x : Source) (c : Ceiling) (p : Persistence) (o : Origin) : Source :=
  if x.restrictions.any fun r => r.origin == o then
    { x with restrictions := x.restrictions.map fun r =>
        if r.origin = o then { r with ceiling := c, persistence := p, latched := false } else r }
  else if x.restrictions.length < collectionCapacity then
    { x with restrictions := x.restrictions ++ [{ origin := o, ceiling := c, persistence := p, latched := false }] }
  else { x with overflow := true, lostShut := x.lostShut || o == shutFloor }

/-- A source whose collection has changed by removals: the overflow mark is cleared where the collection is now empty
(R67), also where MASTER_SHUT, whose floor order set it, still stands: R67 has the mark cleared there and R75 the grant
OFF until MASTER_SHUT's clear, and the model follows R67 for the mark and R75 for the grant (DESIGN CHOICE,
notes/assumptions/30.md). -/
def Source.withRestrictions (x : Source) (l : List Restriction) : Source :=
  { x with restrictions := l, overflow := x.overflow && !l.isEmpty }

/-- What the clear of key `k` does to one record: FOLLOW records of the key go, LATCH records become or stay LATCHED
(R68). -/
def Restriction.takeClear (k : Key) (r : Restriction) : Option Restriction :=
  if r.origin.key = k then
    match r.persistence with
    | .follow => none
    | .latch => some { r with latched := true }
  else some r

/-- What the clear of key `k` does to one source's collection (R68); the clear of MASTER_SHUT ends a lost floor order
(R75). -/
def Source.takeClear (x : Source) (k : Key) : Source :=
  let l := x.restrictions.filterMap (Restriction.takeClear k)
  let y := if l = x.restrictions then x else x.withRestrictions l
  if k = shutKey then { y with lostShut := false } else y

/-- What a removal order does to one source's collection: an ACTIVE record of the origin goes, a LATCHED one stays
(R69). -/
def Source.takeRemoval (x : Source) (o : Origin) : Source :=
  let l := x.restrictions.filter fun r => !(r.origin == o && !r.latched)
  if l = x.restrictions then x else x.withRestrictions l

/-- What RELEASE_LATCH does to one source's collection: every LATCHED record goes, ACTIVE ones stay (R70). -/
def Source.takeRelease (x : Source) : Source := x.withRestrictions (x.restrictions.filter fun r => !r.latched)

/-- One source's record changes by `f`, and its grant is recomputed in the same event (R74). -/
def State.updateSource (f : Source → Source) (s : State) (i : SourceNo) : State :=
  (s.setSource i (f (s.source i))).recompute false i

end Sys2Proof.Machine
end

