-- ==== Sys2Proof/Machine/SpanOps.lean ====
section
/-! DEFINITION. The span controller's shared operations: blockers (R92), roles and clashes (R88, R95), the state change
(R83) with its timers (R84), the entries into DARK, AWAIT and PROBE (R96, R106, R111), cuts and locks (R89, R90),
re-examination (R93) and confirmation (R112, R113). -/

namespace Sys2Proof.Machine

/-! ### What the span controller reads -/

/-- The keys of the records that withhold degree `d`, oldest first (R92). -/
def State.blockerKeys (s : State) (d : Degree) : List Key :=
  (s.cond.active.filter fun r => r.withheld.getLsbD d).map CondRecord.key

/-- NO_ORDINAL stands on every span while the own ordinal is 0 (R92). -/
def State.noOrdinal (s : State) : Bool := s.words.own == 0

/-- The blocker set of span `d` is not empty (R92). -/
def State.blocked (s : State) (d : Degree) : Bool := s.noOrdinal || !(s.blockerKeys d).isEmpty

/-- The blocker view that matches a blocker set as read (R93). -/
def viewOf (blocked : Bool) : BlockerView := if blocked then .notEmpty else .empty

/-- The role by the own ordinal and that of a far word; UNKNOWN without one (R88). -/
def roleAgainst (own : Ordinal) : Option FarWord → SpanRole
  | none => .unknown
  | some w => if own < w.ordinal then .leading else if w.ordinal < own then .trailing else .unknown

/-- The own ordinal equals that of a far word (R95). -/
def ordinalsClash (own : Ordinal) : Option FarWord → Bool
  | none => false
  | some w => own == w.ordinal

/-- The own ordinal equals that of the last good far word (R95, R106). -/
def State.clash (s : State) (d : Degree) : Bool := ordinalsClash s.words.own (s.line d).far

/-- The restart interval in ms (R85). -/
def SpanConfig.intervalMs (c : SpanConfig) : Nat := c.restartInterval * 1000

/-- The probe time in ms (R85). -/
def SpanConfig.probeMs (c : SpanConfig) : Nat := c.probeTime * 100

/-- The request timer's fixed duration of 5 s (R107). -/
def requestMs : Nat := 5000

/-! ### The state change -/

/-- A timer in a state it may run in keeps running; in any other it is stopped (R84). -/
def keepIf (b : Bool) (t : Timer) : Timer := if b then t else none

/-- The span record after a change to state `n` with cause `c` (R83 step 1): timers that do not run in `n` stopped (R84),
ramp remaining 0 on leaving RAMP, no probe origin on leaving PROBE, the request assertion withdrawn on leaving AWAIT
(R107), the failed-probe count 0 in LIT (R87), and the span change number raised by one (R145). -/
def Span.enter (r : Span) (n : SpanState) (c : SpanCause) : Span :=
  { r with
    state := n
    cause := c
    failed := if n = .lit then 0 else r.failed
    asserting := r.asserting && !(r.state == .await)
    remaining := if r.state = .ramp then 0 else r.remaining
    settle := keepIf (n == .dark) r.settle
    interval := keepIf (n == .dark || n == .await) r.interval
    probeTimer := keepIf (n == .probe) r.probeTimer
    rampTimer := keepIf (n == .ramp) r.rampTimer
    request := keepIf (n == .await) r.request
    origin := if r.state = .probe then none else r.origin
    changes := r.changes + 1 }

/-- DARK, HELD and LOCKED hand the forced clear of REFLECT on (R83 step 4). -/
def SpanState.handsForced : SpanState → Bool
  | .dark | .held | .locked => true
  | .lit | .ramp | .probe | .await => false

/-- The capture trigger of a change made by a cut order from a light state into DARK or HELD (R83 step 5). -/
def State.handCutTrigger (s : State) (d : Degree) (old new : SpanState) : Option Key → State
  | some k => if old.isLight && (new == .dark || new == .held) then s.handTrigger d k else s
  | none => s

def State.handForcedIf (s : State) (d : Degree) (b : Bool) : State := if b then s.handForced d else s

/-- A state change of span `d`, taken as one event (R83). `f` makes the further changes of the record that the rule for
the change gives (timers started, counts); `cut` is the key of the cut order that makes the change. In order: the record,
the SPAN report, the grants of the degree's exposed sources with their SOURCE reports, the forced clear, the capture
trigger, the claim notice. -/
def State.moveSpan (s : State) (d : Degree) (n : SpanState) (c : SpanCause) (f : Span → Span) (cut : Option Key) :
    State :=
  let old := s.span d
  let t := (s.setSpan d (f (old.enter n c))).handReport (.span d old.state n c s.now) false
  (((t.recomputeAll true (t.exposedOn d)).handForcedIf d n.handsForced).handCutTrigger d old.state n cut).handNotice
    (.spanChange d)

/-! ### Entries -/

/-- The record on entry into DARK: the interval timer loaded, the settle timer started when the blocker set is empty, the
blocker view set to match it (R93, R94, R96). -/
def Span.darken (blocked : Bool) (r : Span) : Span :=
  { r with
    interval := some r.config.intervalMs
    settle := if blocked then none else some r.config.settleTime
    view := viewOf blocked }

/-- Entry of span `d` into DARK. -/
def State.enterDark (s : State) (d : Degree) (c : SpanCause) (f : Span → Span) (cut : Option Key) : State :=
  s.moveSpan d .dark c (fun r => f (r.darken (s.blocked d))) cut

/-- PROBE_REQ is asserted and the request timer started with 5 s (R106, R107). -/
def Span.assertRequest (r : Span) : Span := { r with asserting := true, request := some requestMs }

/-- The request assertion is withdrawn and the request timer stopped (R107). -/
def Span.withdrawRequest (r : Span) : Span := { r with asserting := false, request := none }

/-- Steps 3 and 4 of the entry into AWAIT: on to DARK where blocked, else PROBE_REQ at a trailing end with auto-restart
on (R106). DESIGN CHOICE, unsafe: a set that step 3 reads and finds empty is not written into the blocker view, which R93
sets at re-examinations and at entries into DARK, while R79 calls it the set as last read (notes/assumptions/33.md). -/
def State.settleInAwait (s : State) (d : Degree) : State :=
  if s.blocked d then s.enterDark d .blocked id none
  else if (s.limits d).autoRestart && ((s.span d).role == .trailing) then s.setSpan d (s.span d).assertRequest
  else s

/-- Entry of span `d` into AWAIT, by SETTLED from DARK or by PROBE_TIMEOUT from PROBE, in the order of R106: a role clash
goes to HELD instead; an entry from PROBE loads the interval timer. -/
def State.enterAwait (s : State) (d : Degree) (c : SpanCause) (f : Span → Span) : State :=
  if s.clash d then s.moveSpan d .held .roleClash f none
  else
    let load : Span → Span :=
      if (s.span d).state = .probe then fun r => { r with interval := some r.config.intervalMs } else id
    (s.moveSpan d .await c (fun r => f (load r)) none).settleInAwait d

/-- The record on entry into PROBE: its origin and its probe timer (R111); the other timers and the request assertion
have gone with the state change. -/
def Span.startProbe (o : ProbeOrigin) (ms : Nat) (r : Span) : Span :=
  { r with origin := some o, probeTimer := some ms }

/-- Entry of span `d` into an automatic probe (R111). -/
def State.enterProbe (s : State) (d : Degree) (c : SpanCause) (f : Span → Span) : State :=
  s.moveSpan d .probe c (fun r => f (r.startProbe .automatic r.config.probeMs)) none

/-- The failed-probe count raised by one; at 15 it stays (R87). -/
def countUp (n : Nat) : Nat := min 15 (n + 1)

/-! ### Cuts, locks, blockers -/

/-- The condition view with `b` for the condition of key `k` on span `d`, where it is one of the three (R81). -/
def Span.see (r : Span) (d : Degree) (k : Key) (b : Bool) : Span :=
  if k = degreeKey .darkIn d then { r with seenDark := b }
  else if k = degreeKey .farShut d then { r with seenShut := b }
  else if k = degreeKey .miswire d then { r with seenMiswire := b }
  else r

/-- A cut order for span `d` with key `k` (R89): the condition view, then the effect by state. -/
def State.takeCut (s : State) (d : Degree) (k : Key) : State :=
  let t := s.setSpan d ((s.span d).see d k true)
  match (t.span d).state with
  | .lit => t.enterDark d .cut id (some k)
  | .ramp | .probe =>
    let n := countUp (t.span d).failed
    if (t.span d).config.probeLimit ≤ n then t.moveSpan d .held .exhausted (fun r => { r with failed := n }) (some k)
    else t.enterDark d .cut (fun r => { r with failed := n }) (some k)
  | .await | .dark | .held | .locked => t

/-- The cause a lock order writes (R90). -/
def LockCause.spanCause : LockCause → SpanCause
  | .key => .key
  | .command => .command

/-- A lock order for span `d` (R90). -/
def State.takeLock (s : State) (d : Degree) (c : LockCause) : State :=
  if (s.span d).state = .locked then
    match c with
    | .key => s.setSpan d { s.span d with cause := .key }
    | .command => s
  else s.moveSpan d .locked c.spanCause id none

/-- A re-examination of the blocker set of span `d` (R93): the set as read, compared with the blocker view, which then
takes it. -/
def State.reexamine (s : State) (d : Degree) : State :=
  let b := s.blocked d
  let r := s.span d
  match r.state, r.view, b with
  | .dark, .empty, true => s.setSpan d { r with settle := none, view := .notEmpty }
  | .dark, .notEmpty, false => s.setSpan d { r with settle := some r.config.settleTime, view := .empty }
  | .await, .empty, true => s.enterDark d .blocked id none
  | _, _, _ => s.setSpan d { r with view := viewOf b }

/-! ### Confirmation -/

/-- The far end's receiver sees this end's light: a far word stands and carries LIGHT_SEEN (R112). -/
def farSeesLight : Option FarWord → Bool
  | some w => w.lightSeen
  | none => false

/-- The three parts of a confirmation (R112), with the far word that is read as the last good one. -/
def State.confirmed (s : State) (d : Degree) (far : Option FarWord) : Bool :=
  !(s.span d).seenDark && !(s.span d).seenShut && farSeesLight far

/-- The record on entry into RAMP: ramp remaining and the ramp-step timer (R113). -/
def Span.startRamp (r : Span) : Span :=
  { r with remaining := r.config.rampDepth, rampTimer := some r.config.rampInterval }

/-- The test of confirmation while span `d` is PROBE, and what a confirmed probe does (R112, R113). -/
def State.testConfirmation (s : State) (d : Degree) (far : Option FarWord) : State :=
  if (s.span d).state = .probe ∧ s.confirmed d far then
    if (s.span d).config.rampDepth = 0 then s.moveSpan d .lit .confirmed id none
    else s.moveSpan d .ramp .confirmed Span.startRamp none
  else s

/-- The role is set from the own ordinal and a far word's; a span in AWAIT whose ordinals are equal goes to HELD (R88,
R95). -/
def State.setRole (s : State) (d : Degree) (far : Option FarWord) : State :=
  let t := s.setSpan d { s.span d with role := roleAgainst s.words.own far }
  if (t.span d).state = .await ∧ ordinalsClash s.words.own far then t.moveSpan d .held .roleClash id none else t

end Sys2Proof.Machine
end

