-- ==== Sys2Proof/Machine/ClaimOps.lean ====
section
/-! DEFINITION. The claim unit's shared operations: the recorded numbers (R145, R146), the claim check (R151), and a
commit with its preconditions (R150, R152). -/

namespace Sys2Proof.Machine

/-- The numbers of degree `d` as they stand (R145). -/
def State.numbersNow (s : State) (d : Degree) : Recorded :=
  { degree := d, changes := (s.span d).changes, touch := look s.cond.touch d }

/-- The life of a claim in ms (R149). -/
def claimLifeMs : Nat := 10000

/-- Why a commit loses its claim (R151). -/
inductive LossReason
  | absent | setMismatch | stale
  deriving DecidableEq, Repr

/-- A named degree's precondition (R152). -/
inductive Reason
  | pass | stateRefused | keyOpen
  deriving DecidableEq, Repr

/-- R182. -/
def lossByte : LossReason → Byte
  | .absent => 0 | .setMismatch => 1 | .stale => 2

/-- R182. -/
def reasonByte : Reason → Byte
  | .pass => 0 | .stateRefused => 1 | .keyOpen => 2

/-- The claim check for a degree set: none where it passes (R151). DESIGN CHOICE, safe but for a claim that such a commit
can pass on the part: a claim is PRESENT until its break is taken at the claim unit (R139, R148), so that a commit taken
after a switch or a resync and before that break is checked against it, where R153's table can be read to have it lose the
claim (notes/assumptions/36.md). -/
def State.claimCheck (s : State) (m : DegSet) : Option LossReason :=
  match s.claim.standing with
  | none => some .absent
  | some c =>
    if c.degrees ≠ m then some .setMismatch
    else if c.recorded.all fun r => r == s.numbersNow r.degree then none
    else some .stale

/-- The reply to a commit whose precondition failed: KEY_OPEN if any degree failed so, and one reason per named degree,
ascending (R152, R182). -/
def refusalBody (l : List (Degree × Reason)) : List Byte :=
  (if l.any fun p => p.2 == .keyOpen then codeKeyOpen else codeStateRefused) :: byteOf l.length ::
    l.flatMap fun p => [byteOf p.1.val, reasonByte p.2]

/-- A commit for a degree set, taken as one event (R150 to R152): the claim check, the preconditions in ascending order,
the claim consumed whatever the result, and where all pass the change of each degree in ascending order. -/
def State.commit (s : State) (m : DegSet) (pre : Degree → Reason) (change : State → Degree → State) (ok : Byte) :
    State × List Byte :=
  let t := s.endClaim .consumed
  match s.claimCheck m with
  | some l => (t, [codeClaimLost, lossByte l])
  | none =>
    let rs := (DegSet.toList m).map fun d => (d, pre d)
    if rs.all fun p => p.2 == .pass then ((DegSet.toList m).foldl change t, [ok]) else (t, refusalBody rs)

/-- A span commit as its payload gives it: BAD_VALUE leaves the claim as it stood (R150). -/
def State.spanCommit (s : State) (count : Byte) (degrees : List Byte) (pre : Degree → Reason)
    (change : State → Degree → State) (ok : Byte) : State × List Byte :=
  match degrees? count degrees with
  | none => (s, [codeBadValue])
  | some m => s.commit m pre change ok

/-! ### The span snapshot of a claim (R146, R185) -/

/-- Sixteen places of three bytes for blocker keys, oldest first; unused places FFh (R185). -/
def keyPlaces (l : List Key) : List Byte :=
  (List.range 16).flatMap fun n =>
    match l[n]? with
    | some k => keyBytes k
    | none => [0xFF, 0xFF, 0xFF]

/-- The ordinal of the last good far word; FFFFh when there is none (R185). -/
def farOrdinalBytes : Option FarWord → List Byte
  | some w => halfBytes (w.ordinal.setWidth 16)
  | none => [0xFF, 0xFF]

/-- The 57 bytes of a span snapshot (R185). -/
def State.snapshotBytes (s : State) (d : Degree) : List Byte :=
  let r := s.span d
  let keys := s.blockerKeys d
  [byteOf d.val, stateByte r.state, causeByte r.cause, byteOf r.failed,
    byteOf (keys.length + if s.noOrdinal then 1 else 0), boolByte s.noOrdinal]
  ++ farOrdinalBytes (s.line d).far ++ [boolByte (s.line d).lost] ++ keyPlaces keys

end Sys2Proof.Machine
end

