-- ==== Sys2Proof/Machine/Claims.lean ====
section
/-! DEFINITION. Claim unit (spec 09): CLAIM_NOTICE, CLAIM_BREAK, CLAIM_LIFE_EXPIRY, and the requests CLAIM and
GET_CLAIM. -/

namespace Sys2Proof.Machine

/-- The degree a notice names; one that names none touches every set (R147). -/
def noticeDegree : Notice → Option Degree
  | .spanChange d => some d
  | .condition d => d

/-- The end cause a notice writes (R147). -/
def noticeCause : Notice → EndCause
  | .spanChange _ => .spanChange
  | .condition _ => .condition

/-- A notice touches a claim's set (R147). -/
def noticeTouches (n : Notice) (m : DegSet) : Bool :=
  match noticeDegree n with
  | some d => m.getLsbD d
  | none => true

/-- What a notice does to the claim (R147). -/
def State.takeNotice (s : State) (n : Notice) : State :=
  match s.claim.standing with
  | some c => if noticeTouches n c.degrees then s.endClaim (noticeCause n) else s
  | none => s

/-- An event on its way to the claim unit is a notice. -/
def ClaimEvent.isNotice : ClaimEvent → Bool
  | .notice _ => true
  | .breakBy _ => false

/-- What the claim unit has been handed, without the oldest event equal to `e`. -/
def State.dropClaimEvent (s : State) (e : ClaimEvent) : State :=
  { s with transit := { s.transit with toClaim := s.transit.toClaim.erase e } }

/-- CLAIM_NOTICE (R147): the oldest notice of this name in transit. A notice waits for every break handed before it: the
notices that a switch or a resync goes on to cause find the claim already ABSENT (R148; notes/assumptions/32.md). -/
def execClaimNotice (n : Notice) (s : State) : Result :=
  if .notice n ∈ s.transit.toClaim.takeWhile ClaimEvent.isNotice then .next ((s.dropClaimEvent (.notice n)).takeNotice n)
  else .next s

/-- The end cause of a break (R148). -/
def breakEnd : BreakCause → EndCause
  | .profile => .profile
  | .resync => .resync
  | .softReset => .reset

/-- CLAIM_BREAK (R148): the oldest break of this name in transit. -/
def execClaimBreak (c : BreakCause) (s : State) : Result :=
  if .breakBy c ∈ s.transit.toClaim then .next ((s.dropClaimEvent (.breakBy c)).endClaim (breakEnd c)) else .next s

/-- CLAIM_LIFE_EXPIRY (R149): 10 s after its CLAIM a claim becomes ABSENT. Without a claim the life timer is stopped and
does not expire, nor does the life of a claim that has time left: the expiry of a claim that another has replaced does
not happen (notes/assumptions/2.md). -/
def execClaimLifeExpiry (s : State) : Result :=
  match s.claim.standing with
  | some c => .next (if c.life = 0 then s.endClaim .expired else s)
  | none => .next s

/-- A new claim on a degree set (R146): REPLACED where one stands, then the numbers as they stand and the full life. -/
def State.startClaim (s : State) (m : DegSet) : State :=
  let t := s.endClaim .replaced
  t.setClaim { standing := some { degrees := m, recorded := (DegSet.toList m).map s.numbersNow, life := claimLifeMs },
               lastEnd := t.claim.lastEnd }

/-- CLAIM (R146): one span snapshot per degree, ascending. -/
def State.takeClaim (s : State) (count : Byte) (degrees : List Byte) : State × List Byte :=
  match degrees? count degrees with
  | none => (s, [codeBadValue])
  | some m => (s.startClaim m, codeOk :: (DegSet.toList m).flatMap s.snapshotBytes)

def execClaim (count : Byte) (degrees : List Byte) (s : State) : Result :=
  .next (State.serve (.claim count degrees)
    (refuseIllFormed (degreesFit count degrees) s (s.takeClaim count degrees)))

/-- GET_CLAIM (R154, R187). -/
def State.takeGetClaim (s : State) : State × List Byte :=
  (s, codeOk ::
    (match s.claim.standing with
      | some c => [1, setByte c.degrees] ++ timerBytes (some c.life)
      | none => [0, 0] ++ timerBytes none)
    ++ [endCauseByte s.claim.lastEnd])

def execGetClaim (s : State) : Result := .next (State.serve .getClaim s.takeGetClaim)

end Sys2Proof.Machine
end

