-- ==== Sys2Proof/Machine/Conditions.lean ====
section
/-! DEFINITION. Condition unit (spec 02): SNAPSHOT_WRITE, REWRITTEN_SNAPSHOT_WRITE, FORCED_CLEAR, COUNTER_ZEROING, the
contacts, the master-shut input, and the requests SET_CONTACT, GET_CONTACT, GET_CONDITIONS. -/

namespace Sys2Proof.Machine

/-! ### Snapshots -/

/-- The degrees of a set are handed to the span controller, a re-examination for each (R20, R93, R143). DESIGN CHOICE,
unsafe: they are handed in ascending degree, an order that none of these rules gives (notes/assumptions/34.md). -/
def State.handReexaminations (s : State) (m : DegSet) : State :=
  (DegSet.toList m).foldl (fun s d => s.handSpan (.reexamine d)) s

/-- A lookup's snapshot is written into the pending record of its key (R20): matched entries and withheld degrees, the
pending mark cleared, the raise report handed on, the withheld degrees handed to the span controller; then a clear that
had fallen due is taken at once (R22). -/
def State.writeSnapshot (s : State) (k : Key) (matched : List EntryNo) (withheld : DegSet) : State :=
  match s.record? k with
  | none => s
  | some r =>
    let x : CondRecord := { r with pending := false, clearDue := none, matched := matched, withheld := withheld }
    let t := ((s.updateRecord k fun _ => x).handReport (.raised k r.raisedAt matched.length (primaryOf matched))
      false).handReexaminations withheld
    match r.clearDue with
    | some c => t.takeClear x c
    | none => t

/-- SNAPSHOT_WRITE (R20): the oldest snapshot in transit, where it is a lookup's. -/
def execSnapshotWrite (s : State) : Result :=
  match s.transit.snapshots with
  | .lookup k m w :: rest => .next (({ s with transit := { s.transit with snapshots := rest } } : State).writeSnapshot k m w)
  | .rewritten .. :: _ | [] => .next s

/-- A rewritten snapshot replaces the three fields of the record with its key, and the old and the new withheld degrees
are re-examined; without the record it was formed for it is discarded (R143; a pending record is a later raise,
notes/assumptions/17.md). -/
def State.rewriteSnapshot (s : State) (k : Key) (matched : List EntryNo) (withheld : DegSet) : State :=
  match s.record? k with
  | none => s
  | some r =>
    if r.pending then s
    else (s.updateRecord k fun x => { x with matched := matched, withheld := withheld }).handReexaminations
      (r.withheld ||| withheld)

/-- REWRITTEN_SNAPSHOT_WRITE (R143): the oldest snapshot in transit, where it is a rewritten one. -/
def execRewrittenSnapshotWrite (s : State) : Result :=
  match s.transit.snapshots with
  | .rewritten k m w :: rest =>
    .next (({ s with transit := { s.transit with snapshots := rest } } : State).rewriteSnapshot k m w)
  | .lookup .. :: _ | [] => .next s

/-! ### Forced clear and zeroing -/

/-- The REFLECT(d) qualifier becomes CLEAR with counter 0; if it was RAISED the clear is taken with cause SPAN_DARK
(R29). -/
def State.forceClear (s : State) (d : Degree) : State :=
  let t : State := { s with cond := { s.cond with refl := put s.cond.refl d clearQualifier } }
  if (look s.cond.refl d).raised then t.clearDue (degreeKey .reflect d) .spanDark else t

/-- FORCED_CLEAR (R29): the oldest dark entry of span `d` in transit. -/
def execForcedClear (d : Degree) (s : State) : Result :=
  if d ∈ s.transit.forced then
    .next (({ s with transit := { s.transit with forced := s.transit.forced.erase d } } : State).forceClear d)
  else .next s

/-- A qualifier with its counter at 0 and its state kept (R140). -/
def Qualifier.zero (q : Qualifier) : Qualifier := { q with counter := 0 }

/-- Every threshold and fault qualifier's counter goes to 0 (R140). -/
def CondUnit.zeroCounters (c : CondUnit) : CondUnit :=
  { c with
    dark := Vector.ofFn fun d => (look c.dark d).zero
    refl := Vector.ofFn fun d => (look c.refl d).zero
    pump := Vector.ofFn fun d => (look c.pump d).zero
    fault := Vector.ofFn fun d => (look c.fault d).zero }

/-- COUNTER_ZEROING (R140): the oldest zeroing in transit. -/
def execCounterZeroing (s : State) : Result :=
  if s.transit.zeroings = 0 then .next s
  else .next { s with cond := s.cond.zeroCounters, transit := { s.transit with zeroings := s.transit.zeroings - 1 } }

/-! ### Contacts -/

def Level.other : Level → Level
  | .low => .high
  | .high => .low

/-- The debounce timer at a change of level: stopped if it runs, else started when the input now reads differently from
the accepted state (R31). -/
def Contact.changeLevel (c : Contact) : Contact :=
  let x := { c with level := c.level.other }
  if c.timer.isSome then { x with timer := none }
  else if x.readsOpen != x.accepted then { x with timer := some x.debounce }
  else x

/-- CONTACT_LEVEL_CHANGE (R31): the level at the input changes to the other one. -/
def execContactLevelChange (k : ContactNo) (s : State) : Result :=
  .next (s.setContact k (s.contact k).changeLevel)

/-- The accepted state taken at a debounce expiry, and what it raises or clears (R32). -/
def State.acceptContact (s : State) (k : ContactNo) : State :=
  let c := s.contact k
  let t := s.setContact k { c with timer := none, accepted := c.readsOpen }
  match c.readsOpen, contactKey? k c with
  | true, some key => t.contactRaise k key
  | true, none => t
  | false, _ => t.contactClear k .normal

/-- DEBOUNCE_EXPIRY (R32): a timer that is stopped, or has time left, does not expire (notes/assumptions/2.md). -/
def execDebounceExpiry (k : ContactNo) (s : State) : Result :=
  if (s.contact k).timer = some 0 then .next (s.acceptContact k) else .next s

/-! ### Master shut -/

/-- The clear delay of 20 ms (R35). -/
def clearDelayMs : Nat := 20

/-- MASTER_SHUT_ASSERTION (R35): raised at once, or a running clear delay stopped. -/
def execMasterShutAssertion (s : State) : Result :=
  let t := s.setShut { asserted := true, raised := true, delay := none }
  .next (if s.cond.shut.raised then t else t.raise shutKey)

/-- MASTER_SHUT_DEASSERTION (R35): the clear delay starts while MASTER_SHUT is raised. -/
def execMasterShutDeassertion (s : State) : Result :=
  .next (s.setShut { s.cond.shut with
    asserted := false
    delay := if s.cond.shut.raised then some clearDelayMs else s.cond.shut.delay })

/-- CLEAR_DELAY_EXPIRY (R35): with no time left, MASTER_SHUT is cleared with cause NORMAL (notes/assumptions/2.md). -/
def execClearDelayExpiry (s : State) : Result :=
  if s.cond.shut.delay = some 0 then
    .next ((s.setShut { s.cond.shut with raised := false, delay := none }).clearDue shutKey .normal)
  else .next s

/-! ### Requests -/

/-- The contact after SET_CONTACT's steps 2 to 4 (R33). -/
def Contact.reconfigure (c : Contact) (u : ContactUse) (l : Level) (d : Option Degree) (debounce : Nat) : Contact :=
  let x := { c with use := u, openLevel := l, degree := d, debounce := debounce, accepted := false, timer := none }
  if x.readsOpen then { x with timer := some debounce } else x

/-- SET_CONTACT (R33). -/
def State.takeSetContact (s : State) (k u l d t : Byte) : State × List Byte :=
  match index? 8 k, use? u, level? l, optIndex? 4 d with
  | some k, some u, some l, some d =>
    let ms := clampNat 1 64 t.toNat
    let s1 := s.contactClear k .reconfigured
    (s1.setContact k ((s1.contact k).reconfigure u l d ms), [okOrClamped (ms != t.toNat)])
  | _, _, _, _ => (s, [codeBadValue])

def execSetContact (k u l d t : Byte) (s : State) : Result :=
  .next (State.serve (.setContact k u l d t) (s.takeSetContact k u l d t))

/-- One contact in a GET_CONTACT reply (R34, R187). -/
def contactBytes (c : Contact) : List Byte :=
  [useByte c.use, levelByte c.openLevel, optByte c.degree, byteOf c.debounce, boolByte c.readsOpen,
    boolByte c.accepted] ++ timerBytes c.timer

/-- GET_CONTACT (R34). -/
def State.takeGetContact (s : State) : State × List Byte :=
  (s, codeOk :: (List.finRange 8).flatMap (fun k => contactBytes (s.contact k))
    ++ [boolByte s.cond.shut.asserted, boolByte s.cond.shut.raised] ++ timerBytes s.cond.shut.delay)

def execGetContact (s : State) : Result := .next (State.serve .getContact s.takeGetContact)

/-- A condition record in a GET_CONDITIONS reply (R37, R187). -/
def condRecordBytes (r : CondRecord) : List Byte :=
  keyBytes r.key ++ wordBytes r.raisedAt
    ++ [boolByte r.pending, boolByte r.clearDue.isSome, byteOf r.matched.length, optByte (primaryOf r.matched),
      setByte r.withheld]

/-- GET_CONDITIONS (R37): PAGE gives up to 8 records from a position, DETAIL one record with its matched list. -/
def State.takeGetConditions (s : State) (position form : Byte) : State × List Byte :=
  let list := s.cond.active
  if position.toNat ≤ 52 ∧ form = 0 then
    let page := (list.drop position.toNat).take 8
    (s, [codeOk, byteOf list.length, byteOf page.length] ++ page.flatMap condRecordBytes)
  else if position.toNat ≤ 52 ∧ form = 1 then
    let one := (list.drop position.toNat).take 1
    (s, [codeOk, byteOf list.length, byteOf one.length]
      ++ one.flatMap fun r => condRecordBytes r ++ r.matched.map fun e => byteOf e.val)
  else (s, [codeBadValue])

def execGetConditions (position form : Byte) (s : State) : Result :=
  .next (State.serve (.getConditions position form) (s.takeGetConditions position form))

end Sys2Proof.Machine
end

