-- ==== Sys2Proof/Machine/FrontEnd.lean ====
section
/-! DEFINITION. Monitor front end (spec 01): MONITOR_READING, SET_CHANNEL, GET_READING, and the power arithmetic. -/

namespace Sys2Proof.Machine

/-! ### The logarithm of R6 -/

/-- `b` to the power `e`, by factors of `b` to the 64. -/
def bigPow (b e : Nat) : Nat := (b ^ 64) ^ (e / 64) * b ^ (e % 64)

/-- The largest `m` below 8192 with 10 to the `m` at most `x`, bit by bit from the highest. -/
def floorLog10 (x : Nat) : Nat :=
  [4096, 2048, 1024, 512, 256, 128, 64, 32, 16, 8, 4, 2, 1].foldl
    (fun m b => if bigPow 10 (m + b) ≤ x then m + b else m) 0

/-- 1000 × log10(n) rounded to the nearest integer, a half rounded up (R6 step 3). With m the floor of 2000 × log10(n),
that integer is (m + 1) / 2. -/
def milliLog10 (n : Nat) : Nat := (floorLog10 (bigPow n 2000) + 1) / 2

/-! ### The value of a reading -/

/-- The lowest and the highest value the front end produces (R7), and the below-dark value (R6). -/
def valueFloor : Int := -6000
def valueCeiling : Int := 3000

/-- The value of a valid reading (R6, R7). -/
def convert (k : Calibration) (code : BitVec 12) : Int :=
  if code.toNat ≤ k.dark then valueFloor
  else clampInt valueFloor valueCeiling (milliLog10 (code.toNat - k.dark) + k.gain)

/-- The substitute value of an invalid reading, by role (R8, R9). -/
def substitute (held : Option Int) : Role → Int
  | .inn => valueFloor
  | .out => held.getD valueFloor
  | .refl => valueCeiling
  | .prefl => valueCeiling

/-- The saturation code (R3). -/
def saturationCode : BitVec 12 := 4095#12

/-- The last-reading record that a reading leaves (R3, R8, R10). -/
def readingOf (k : Calibration) (held : Option Int) (role : Role) (code : BitVec 12) (valid : Bool) : Reading :=
  { present := true, raw := code, valid := valid, saturated := valid && code == saturationCode,
    value := if valid then convert k code else substitute held role }

/-- An invalid or a saturated reading counts as a fault reading (R3). -/
def Reading.isFault (r : Reading) : Bool := !r.valid || r.saturated

/-- The reading is stored, and a valid OUT reading replaces the held last valid OUT value (R9, R10). -/
def FrontEnd.store (f : FrontEnd) (c : ChannelNo) (r : Reading) : FrontEnd :=
  { f with
    last := put f.last c r
    heldOut := if chanRole c = .out ∧ r.valid then put f.heldOut (chanDegree c) (some r.value) else f.heldOut }

/-- P(D.OUT) as it stands in the last-reading record (R12). -/
def FrontEnd.outValue (f : FrontEnd) (d : Degree) : Int := (look f.last (channel d 1)).value

/-- The ratio record a D.REFL arrival leaves: r, and whether it is evaluated, which asks for the launch at or above the
out_floor in force (R12, R13). -/
def ratioOf (pRefl pOut outFloor : Int) : Ratio := { r := pRefl - pOut, evaluated := decide (outFloor ≤ pOut) }

/-- The sample a D.IN arrival hands to the capture unit, with the qualifiers' states as they stand after the DARK_IN
qualifier has taken the reading (R14). -/
def State.sampleNow (s : State) (d : Degree) (pIn : Int) : Sample :=
  { pIn := pIn, pOut := s.front.outValue d, dark := (look s.cond.dark d).raised, refl := (look s.cond.refl d).raised }

/-- The further consumers of a reading's value, by the channel's role (R11). -/
def State.distribute (s : State) (c : ChannelNo) (v : Int) : State :=
  let d := chanDegree c
  match chanRole c with
  | .inn =>
    let t := s.feedDark d v
    t.handSample d (t.sampleNow d v)
  | .out => s
  | .refl =>
    let x := ratioOf v (s.front.outValue d) (s.limits d).outFloor
    ({ s with front := { s.front with ratio := put s.front.ratio d x } } : State).feedReflect d x
  | .prefl => s.feedPump d v

/-- The reading of a channel as the front end takes it. -/
def State.readingAt (s : State) (c : ChannelNo) (code : BitVec 12) (valid : Bool) : Reading :=
  readingOf (look s.front.calib c) (look s.front.heldOut (chanDegree c)) (chanRole c) code valid

/-- MONITOR_READING (R2, R11): the reading marked, converted or substituted and stored, then handed to the MONITOR_FAULT
qualifier of its channel and to the consumers of its role (in this order: DESIGN CHOICE, notes/assumptions/14.md). -/
def execMonitorReading (c : ChannelNo) (code : BitVec 12) (valid : Bool) (s : State) : Result :=
  let r := s.readingAt c code valid
  .next ((({ s with front := s.front.store c r } : State).feedFault c r.isFault).distribute c r.value)

/-! ### Requests -/

/-- SET_CHANNEL (R5). -/
def State.takeSetChannel (s : State) (ch : Byte) (dark gain : Half) : State × List Byte :=
  match index? 16 ch with
  | none => (s, [codeBadValue])
  | some c =>
    let k : Calibration := { dark := clampNat 0 255 dark.toNat, gain := clampInt (-5000) 5000 gain.toInt }
    ({ s with front := { s.front with calib := put s.front.calib c k } },
      [okOrClamped (k.dark != dark.toNat || k.gain != gain.toInt)])

def execSetChannel (ch : Byte) (dark gain : Half) (s : State) : Result :=
  .next (State.serve (.setChannel ch dark gain) (s.takeSetChannel ch dark gain))

/-- The flag byte of a channel record: present, valid, saturated, and for a REFL channel bit 3, evaluated (R187). -/
def readingFlags (r : Reading) (evaluated : Bool) : Byte :=
  0#4 ++ BitVec.ofBool evaluated ++ BitVec.ofBool r.saturated ++ BitVec.ofBool r.valid ++ BitVec.ofBool r.present

/-- A channel record of a GET_READING reply; that of a REFL channel is followed by the ratio of its degree (R16, R187). -/
def FrontEnd.channelBytes (f : FrontEnd) (c : ChannelNo) : List Byte :=
  let r := look f.last c
  let x := look f.ratio (chanDegree c)
  let isRefl := chanRole c == .refl
  readingFlags r (isRefl && x.evaluated) :: halfBytes (r.raw.setWidth 16) ++ intBytes r.value
    ++ if isRefl then intBytes x.r else []

/-- GET_READING (R16). -/
def State.takeGetReading (s : State) (first count : Byte) : State × List Byte :=
  if first.toNat < 16 ∧ 1 ≤ count.toNat ∧ first.toNat + count.toNat ≤ 16 then
    (s, [codeOk, first, count] ++
      ((List.finRange 16).filter fun c => first.toNat ≤ c.val && c.val < first.toNat + count.toNat).flatMap
        s.front.channelBytes)
  else (s, [codeBadValue])

def execGetReading (first count : Byte) (s : State) : Result :=
  .next (State.serve (.getReading first count) (s.takeGetReading first count))

end Sys2Proof.Machine
end

