-- ==== Sys2Proof/Machine/MapOps.lean ====
section
/-! DEFINITION. The hazard map's shared operations: matching (R39, R50, R51), the floor of each kind (R52, R53), and the
orders a matched entry or a floor issues (R54 to R57). -/

namespace Sys2Proof.Machine

/-! ### Matching -/

/-- A part of an entry's key that is absent matches anything; a present one only an equal present part (R39). -/
def partMatches {α : Type} [DecidableEq α] (entry cond : Option α) : Bool := entry.isNone || entry == cond

/-- The key of an entry matches a condition key (R39). -/
def keyMatches (entry cond : Key) : Bool :=
  entry.kind == cond.kind && partMatches entry.degree cond.degree && partMatches entry.detail cond.detail

/-- The content of a LIVE entry. -/
def Entry.live? : Entry → Option EntryContent
  | .live c => some c
  | .free | .parked _ => none

/-- Entry `e` is a candidate, LIVE and of a class in the active profile's mask, and its key matches (R50). -/
def State.candidateMatches (s : State) (k : Key) (e : EntryNo) : Bool :=
  match (s.entry e).live? with
  | some c => s.profile.mask.getLsbD c.cls && keyMatches c.key k
  | none => false

/-- The matched list of a lookup, ascending (R50, R51). -/
def State.matchedList (s : State) (k : Key) : List EntryNo :=
  (List.finRange 64).filter (s.candidateMatches k)

/-- The present contents of the entries in a list that are LIVE, each with its index. -/
def State.contents (s : State) (l : List EntryNo) : List (EntryNo × EntryContent) :=
  l.filterMap fun e => ((s.entry e).live?).map fun c => (e, c)

/-! ### Floors (R52, R53) -/

/-- The role of the channel in a MONITOR_FAULT key. -/
def faultRole (k : Key) : Option Role :=
  match k.detail with
  | some (.channel c) => some (chanRole c)
  | some (.contact _) | none => none

/-- The floor restriction of a key: whom it addresses and its ceiling; its persistence is FOLLOW (R52, R53). -/
def floorOrder (k : Key) : Option (Target × Ceiling) :=
  match k.kind with
  | .reflect => k.degree.map fun d => (.exposure (.out d), .reduced)
  | .pumpReflect => k.degree.map fun d => (.exposure (.inn d), .off)
  | .masterShut => some (.every, .off)
  | .monitorFault =>
    match faultRole k with
    | some .refl => k.degree.map fun d => (.exposure (.out d), .reduced)
    | some .prefl => k.degree.map fun d => (.exposure (.inn d), .off)
    | some .inn | some .out | none => none
  | .darkIn | .lineLost | .farShut | .farLock | .miswire | .guardOpen | .keyOpen => none

/-- The set of a degree that may be absent. -/
def degSetOf (d : Option Degree) : DegSet := match d with
  | some d => DegSet.one d
  | none => 0

/-- The floor cut of a key (R52, R53). -/
def floorCut (k : Key) : DegSet :=
  match k.kind with
  | .darkIn | .farShut | .miswire => degSetOf k.degree
  | .monitorFault => if faultRole k = some .inn then degSetOf k.degree else 0
  | .reflect | .pumpReflect | .lineLost | .farLock | .guardOpen | .keyOpen | .masterShut => 0

/-- The floor withhold of a key (R52, R53). -/
def floorWithhold (k : Key) : DegSet :=
  match k.kind with
  | .lineLost | .farLock | .miswire => degSetOf k.degree
  | .monitorFault => if faultRole k = some .inn ∨ faultRole k = some .refl then degSetOf k.degree else 0
  | .darkIn | .reflect | .pumpReflect | .farShut | .guardOpen | .keyOpen | .masterShut => 0

/-- The spans a key's lookup locks: that of its degree, or every span when it carries none (R52, R56). -/
def floorLocks (k : Key) : List Degree :=
  match k.kind with
  | .keyOpen =>
    match k.degree with
    | some d => [d]
    | none => List.finRange 4
  | .darkIn | .reflect | .pumpReflect | .monitorFault | .lineLost | .farShut | .farLock | .miswire | .guardOpen
  | .masterShut => []

/-! ### Orders -/

/-- The floor order of a key, with the origin FLOOR (R54). -/
def floorEvents (k : Key) : List GrantEvent :=
  match floorOrder k with
  | some (t, c) => [.restriction t c .follow { key := k, entry := none }]
  | none => []

/-- The restriction orders of matched entries: ascending index, each in the order of its action list (R54). -/
def entryEvents (k : Key) (l : List (EntryNo × EntryContent)) : List GrantEvent :=
  l.flatMap fun e => e.2.actions.map fun a =>
    .restriction (.one a.source) a.ceiling a.persistence { key := k, entry := some e.1 }

/-- The union of the cut sets of entries (R55). -/
def cutUnion (l : List (EntryNo × EntryContent)) : DegSet := l.foldr (fun e m => e.2.cut ||| m) 0

/-- The union of the withhold sets of entries (R57). -/
def withholdUnion (l : List (EntryNo × EntryContent)) : DegSet := l.foldr (fun e m => e.2.withhold ||| m) 0

/-- One cut order per degree of a set, ascending, each carrying the key (R55). -/
def cutEvents (k : Key) (m : DegSet) : List SpanEvent := (DegSet.toList m).map fun d => .cut d k

/-- The lock orders of a key's lookup (R56). -/
def lockEvents (k : Key) : List SpanEvent := (floorLocks k).map fun d => .lock d .key

def State.handGrantAll (s : State) (l : List GrantEvent) : State := l.foldl State.handGrant s

def State.handSpanAll (s : State) (l : List SpanEvent) : State := l.foldl State.handSpan s

end Sys2Proof.Machine
end

