-- ==== Sys2Proof/Machine/Grants.lean ====
section
/-! DEFINITION. Grant unit (spec 04): RESTRICTION_ORDER, CLEAR_AT_GRANT_UNIT, REMOVAL_ORDER, and the requests SET_SOURCE,
HOLD_SOURCE, RELEASE_LATCH, GET_SOURCE. -/

namespace Sys2Proof.Machine

/-! ### Orders and clears -/

/-- A restriction order reaches every source it addresses (R66). -/
def State.restrict (s : State) (t : Target) (c : Ceiling) (p : Persistence) (o : Origin) : State :=
  (s.addressed t).foldl (State.updateSource fun x => x.takeOrder c p o) s

/-- RESTRICTION_ORDER (R66): the oldest event handed to the grant unit, where it is a restriction order. -/
def execRestrictionOrder (s : State) : Result :=
  match s.transit.toGrant with
  | .restriction t c p o :: rest =>
    .next (({ s with transit := { s.transit with toGrant := rest } } : State).restrict t c p o)
  | .removal _ :: _ | .clear _ :: _ | [] => .next s

/-- CLEAR_AT_GRANT_UNIT (R68): the oldest event handed to the grant unit, where it is a clear. -/
def execClearAtGrantUnit (s : State) : Result :=
  match s.transit.toGrant with
  | .clear k :: rest =>
    .next (allSources.foldl (State.updateSource fun x => x.takeClear k)
      ({ s with transit := { s.transit with toGrant := rest } } : State))
  | .removal _ :: _ | .restriction .. :: _ | [] => .next s

/-- REMOVAL_ORDER (R69): the oldest event handed to the grant unit, where it is a removal order. -/
def execRemovalOrder (s : State) : Result :=
  match s.transit.toGrant with
  | .removal o :: rest =>
    .next (allSources.foldl (State.updateSource fun x => x.takeRemoval o)
      ({ s with transit := { s.transit with toGrant := rest } } : State))
  | .clear _ :: _ | .restriction .. :: _ | [] => .next s

/-! ### Configuration and hold -/

/-- The floor of a record addresses an exposure by the table of R60; a change to ENCLOSED or UNUSED adds nothing
(R63). -/
def floorReaches (k : Key) (e : Exposure) : Option Ceiling :=
  if e.degree = none then none
  else match floorOrder k with
    | some (.exposure f, c) => if f = e then some c else none
    | some (.every, c) => some c
    | some (.one _, _) | none => none

/-- The floor restrictions of raised conditions applied to a source whose exposure has changed, in list order (R63). -/
def State.applyFloors (s : State) (x : Source) : Source :=
  s.cond.active.foldl (fun x r =>
    match floorReaches r.key x.exposure with
    | some c => x.takeOrder c .follow { key := r.key, entry := none }
    | none => x) x

/-- The range of the setpoints (R59). -/
def clampSetpoint (v : Int) : Int := clampInt (-1000) 3000 v

/-- The hazard limit that bounds the probe setpoint of an exposed source (R62 step 2). -/
def State.probeLimitFor (s : State) (e : Exposure) (v : Int) : Int :=
  match e.degree with
  | some d => min v (s.span d).config.hazardLimit
  | none => v

/-- SET_SOURCE (R62, R63). -/
def State.takeSetSource (s : State) (i e d : Byte) (full reduced probe : Half) : State × List Byte :=
  match index? 16 i, exposure? e d with
  | some i, some e =>
    let f := clampSetpoint full.toInt
    let r := clampSetpoint reduced.toInt
    let p := s.probeLimitFor e (clampSetpoint probe.toInt)
    let old := s.source i
    let x : Source := { old with exposure := e, full := f, reduced := r, probe := p }
    let y := if old.exposure = e then x else s.applyFloors x
    ((s.setSource i y).recompute false i,
      [okOrClamped (f != full.toInt || r != reduced.toInt || p != probe.toInt)])
  | _, _ => (s, [codeBadValue])

def execSetSource (i e d : Byte) (full reduced probe : Half) (s : State) : Result :=
  .next (State.serve (.setSource i e d full reduced probe) (s.takeSetSource i e d full reduced probe))

/-- HOLD_SOURCE (R64). -/
def State.takeHoldSource (s : State) (i h : Byte) : State × List Byte :=
  match index? 16 i, hold? h with
  | some i, some h => (s.updateSource (fun x => { x with hold := h }) i, [codeOk])
  | _, _ => (s, [codeBadValue])

def execHoldSource (i h : Byte) (s : State) : Result :=
  .next (State.serve (.holdSource i h) (s.takeHoldSource i h))

/-- RELEASE_LATCH (R70): a commit for the degree of an exposed source; no claim is read for another source (R150). -/
def State.takeReleaseLatch (s : State) (i : Byte) : State × List Byte :=
  match index? 16 i with
  | none => (s, [codeBadValue])
  | some i =>
    match (s.source i).exposure.degree with
    | some d => s.commit (DegSet.one d) (fun _ => .pass) (fun t _ => t.updateSource Source.takeRelease i) codeOk
    | none => (s.updateSource Source.takeRelease i, [codeOk])

def execReleaseLatch (i : Byte) (s : State) : Result := .next (State.serve (.releaseLatch i) (s.takeReleaseLatch i))

/-- The form and the value of a span ceiling (R185). -/
def ceilingFormBytes : SpanCeiling → List Byte
  | .unbounded => 0 :: powerBytes none
  | .off => 1 :: powerBytes none
  | .value v => 2 :: powerBytes (some v)

/-- GET_SOURCE (R78, R185). -/
def State.takeGetSource (s : State) (i : Byte) : State × List Byte :=
  match index? 16 i with
  | none => (s, [codeBadValue])
  | some i =>
    let x := s.source i
    let spans := s.ctrl.spans
    (s, codeOk :: exposureBytes x.exposure ++ intBytes x.full ++ intBytes x.reduced ++ intBytes x.probe
      ++ intBytes x.effReduced ++ intBytes (effProbe spans x) ++ [holdByte x.hold, boolByte x.overflow]
      ++ ceilingFormBytes (spanCeiling spans x) ++ powerBytes x.grant ++ [boolByte x.enable]
      ++ [(offReasons spans x).setWidth 8, byteOf x.restrictions.length]
      ++ x.restrictions.flatMap restrictionBytes)

def execGetSource (i : Byte) (s : State) : Result := .next (State.serve (.getSource i) (s.takeGetSource i))

end Sys2Proof.Machine
end

