-- ==== Sys2Proof/Machine/HazardMap.lean ====
section
/-! DEFINITION. Hazard map (spec 03, 08): LOOKUP, REEVALUATION, and the requests PUT_ENTRY, PARK_ENTRY, UNPARK_ENTRY,
FREE_ENTRY, GET_ENTRY, TEST_KEY. -/

namespace Sys2Proof.Machine

/-! ### Lookup -/

/-- The lookup of key `k` (R50 to R57): the floor order and the entries' orders to the grant unit, the cut orders and
then the lock orders to the span controller, the snapshot to the condition unit. -/
def State.lookUp (s : State) (k : Key) : State :=
  let ms := s.matchedList k
  let es := s.contents ms
  (((s.handGrantAll (floorEvents k ++ entryEvents k es)).handSpanAll (cutEvents k (cutUnion es ||| floorCut k))).handSpanAll
    (lockEvents k)).handSnapshot (.lookup k ms (withholdUnion es ||| floorWithhold k))

/-- LOOKUP (R49, R50): the key at the oldest end of the raise queue; a re-evaluation that stands there comes first
(R141). -/
def execLookup (s : State) : Result :=
  match s.map.queue with
  | .key k :: rest => .next ((s.setQueue rest).lookUp k)
  | .reevaluate :: _ | [] => .next s

/-! ### Re-evaluation (R141 to R143) -/

/-- The key and the matched list of a snapshot in transit. -/
def SnapshotEvent.keyed : SnapshotEvent → Key × List EntryNo
  | .lookup k m _ => (k, m)
  | .rewritten k m _ => (k, m)

/-- The previous list of a covered record: the latest the hazard map has handed for its key and the condition unit has
not yet written, or else the record's matched entries (R141; notes/assumptions/17.md). -/
def State.previousList (s : State) (r : CondRecord) : List EntryNo :=
  match s.transit.snapshots.reverse.find? fun e => e.keyed.1 == r.key with
  | some e => e.keyed.2
  | none => r.matched

/-- The records a re-evaluation covers: those whose key does not wait in the raise queue, oldest first (R141). -/
def State.covered (s : State) : List CondRecord := s.cond.active.filter fun r => !s.map.queue.contains (.key r.key)

/-- The removal orders of one covered record: its leaving entries, ascending (R142). -/
def State.removalsOf (s : State) (r : CondRecord) : List GrantEvent :=
  ((List.finRange 64).filter fun e => (s.previousList r).contains e && !(s.matchedList r.key).contains e).map fun e =>
    .removal { key := r.key, entry := some e }

/-- The present contents of a covered record's arriving entries, ascending (R141). -/
def State.arrivals (s : State) (r : CondRecord) : List (EntryNo × EntryContent) :=
  s.contents ((s.matchedList r.key).filter fun e => !(s.previousList r).contains e)

/-- The rewritten snapshot of a covered record (R143). -/
def State.rewritten (s : State) (r : CondRecord) : SnapshotEvent :=
  .rewritten r.key (s.matchedList r.key) (withholdUnion (s.contents (s.matchedList r.key)) ||| floorWithhold r.key)

/-- The re-evaluation (R141 to R143): every removal, then every restriction order, then the cut orders, then the rewritten
snapshots, each in list order. -/
def State.reevaluate (s : State) : State :=
  let rs := s.covered
  let t := ((s.handGrantAll (rs.flatMap s.removalsOf)).handGrantAll
    (rs.flatMap fun r => entryEvents r.key (s.arrivals r))).handSpanAll
      (rs.flatMap fun r => cutEvents r.key (cutUnion (s.arrivals r)))
  rs.foldl (fun t r => t.handSnapshot (s.rewritten r)) t

/-- REEVALUATION (R141): taken where it stands at the oldest end of what waits at the hazard map. -/
def execReevaluation (s : State) : Result :=
  match s.map.queue with
  | .reevaluate :: rest => .next (s.setQueue rest).reevaluate
  | .key _ :: _ | [] => .next s

/-! ### Editing requests -/

/-- The entry content a PUT_ENTRY gives, where it passes R43's checks. -/
def entryContent? (key : RawKey) (cls count : Byte) (actions : List RawAction) (cut withhold : Byte) :
    Option EntryContent :=
  match entryKey? key, index? 4 cls, actions? actions, set? cut, set? withhold with
  | some k, some c, some as, some x, some w =>
    if count.toNat = actions.length ∧ actions.length ≤ 4 then
      some { key := k, cls := c, actions := as, cut := x, withhold := w }
    else none
  | _, _, _, _, _ => none

/-- The entry in its target state, LIVE or PARKED (R43). -/
def targetEntry? (target : Byte) (c : EntryContent) : Option Entry :=
  if target = 1 then some (.live c) else if target = 2 then some (.parked c) else none

/-- The lowest-numbered FREE entry (R44). -/
def State.nextFree (s : State) : Option EntryNo := (List.finRange 64).find? fun e => s.entry e == .free

/-- PUT_ENTRY (R43, R44). -/
def State.takePutEntry (s : State) (placement target : Byte) (key : RawKey) (cls count : Byte)
    (actions : List RawAction) (cut withhold : Byte) : State × List Byte :=
  match (entryContent? key cls count actions cut withhold).bind (targetEntry? target), optIndex? 64 placement with
  | some x, some (some e) => (s.setEntry e x, [codeOk, byteOf e.val])
  | some x, some none =>
    match s.nextFree with
    | some e => (s.setEntry e x, [codeOk, byteOf e.val])
    | none => (s, [codeTableFull])
  | _, _ => (s, [codeBadValue])

def execPutEntry (placement target : Byte) (key : RawKey) (cls count : Byte) (actions : List RawAction)
    (cut withhold : Byte) (s : State) : Result :=
  .next (State.serve (.putEntry placement target key cls count actions cut withhold)
    (refuseIllFormed (actionsFit count actions) s (s.takePutEntry placement target key cls count actions cut withhold)))

/-- PARK_ENTRY (R45). -/
def State.takeParkEntry (s : State) (i : Byte) : State × List Byte :=
  match index? 64 i with
  | none => (s, [codeBadValue])
  | some e =>
    match s.entry e with
    | .free => (s, [codeNotFound])
    | .live c => (s.setEntry e (.parked c), [codeOk])
    | .parked _ => (s, [codeOk])

def execParkEntry (i : Byte) (s : State) : Result := .next (State.serve (.parkEntry i) (s.takeParkEntry i))

/-- UNPARK_ENTRY (R45). -/
def State.takeUnparkEntry (s : State) (i : Byte) : State × List Byte :=
  match index? 64 i with
  | none => (s, [codeBadValue])
  | some e =>
    match s.entry e with
    | .free => (s, [codeNotFound])
    | .live _ => (s, [codeOk])
    | .parked c => (s.setEntry e (.live c), [codeOk])

def execUnparkEntry (i : Byte) (s : State) : Result := .next (State.serve (.unparkEntry i) (s.takeUnparkEntry i))

/-- FREE_ENTRY (R46). -/
def State.takeFreeEntry (s : State) (i : Byte) : State × List Byte :=
  match index? 64 i with
  | none => (s, [codeBadValue])
  | some e => (s.setEntry e .free, [codeOk])

def execFreeEntry (i : Byte) (s : State) : Result := .next (State.serve (.freeEntry i) (s.takeFreeEntry i))

/-- The content of an entry at the fixed widths of a GET_ENTRY reply (R184). -/
def contentBytes (c : EntryContent) : List Byte :=
  keyBytes c.key ++ [byteOf c.cls.val, byteOf c.actions.length]
    ++ (List.range 4).flatMap (fun n => actionPlace c.actions[n]?) ++ [setByte c.cut, setByte c.withhold]

/-- The entry state and content of a GET_ENTRY reply; a FREE entry has its key FFh and all later bytes 00h (R184). -/
def entryBytes : Entry → List Byte
  | .free => 0 :: List.replicate 3 0xFF ++ List.replicate 16 0x00
  | .live c => 1 :: contentBytes c
  | .parked c => 2 :: contentBytes c

/-- GET_ENTRY (R47). -/
def State.takeGetEntry (s : State) (i : Byte) : State × List Byte :=
  match index? 64 i with
  | none => (s, [codeBadValue])
  | some e => (s, codeOk :: entryBytes (s.entry e))

def execGetEntry (i : Byte) (s : State) : Result := .next (State.serve (.getEntry i) (s.takeGetEntry i))

/-! ### Testing a key -/

/-- The content of an entry in the population a TEST_KEY chooses: LIVE 1, PARKED 2, BOTH 3 (R58). -/
def Entry.inPopulation (population : Byte) : Entry → Option EntryContent
  | .free => none
  | .live c => if population = 1 ∨ population = 3 then some c else none
  | .parked c => if population = 2 ∨ population = 3 then some c else none

/-- The entries that match a tested key, ascending; filter APPLY (0) asks for a class in the active mask (R58). -/
def State.testMatches (s : State) (k : Key) (population filter : Byte) : List EntryNo :=
  (List.finRange 64).filter fun e =>
    match (s.entry e).inPopulation population with
    | some c => (filter == 1 || s.profile.mask.getLsbD c.cls) && keyMatches c.key k
    | none => false

/-- TEST_KEY (R58): the match count and sixteen places for the lowest matching indices. -/
def State.takeTestKey (s : State) (key : RawKey) (population filter : Byte) : State × List Byte :=
  match testedKey? key with
  | none => (s, [codeBadValue])
  | some k =>
    if 1 ≤ population.toNat ∧ population.toNat ≤ 3 ∧ filter.toNat ≤ 1 then
      let ms := s.testMatches k population filter
      (s, [codeOk, byteOf ms.length] ++ (List.range 16).map fun n => optByte ms[n]?)
    else (s, [codeBadValue])

def execTestKey (key : RawKey) (population filter : Byte) (s : State) : Result :=
  .next (State.serve (.testKey key population filter) (s.takeTestKey key population filter))

end Sys2Proof.Machine
end

