-- ==== Sys2Proof/Machine/Resets.lean ====
section
/-! DEFINITION. The two resets: POWER_ON_RESET and the soft reset of R176, block by block. Where a rule says that a soft
reset keeps a value it is kept; everything else takes the value of Machine/Defaults.lean. -/

namespace Sys2Proof.Machine

/-! ### What both resets do with the pins (notes/assumptions/11.md) -/

/-- A contact as a reset leaves it: accepted state CLOSED, and the debounce timer started where the input reads open
(R30). -/
def Contact.leaveReset (c : Contact) : Contact :=
  let x := { c with accepted := false, timer := none, waiting := none }
  if x.readsOpen then { x with timer := some x.debounce } else x

/-- MASTER_SHUT is raised at once where the input is asserted as the part leaves reset (R35). -/
def State.leaveReset (s : State) : State :=
  if s.cond.shut.asserted then (s.setShut { s.cond.shut with raised := true }).raise shutKey else s

/-! ### The soft reset -/

/-- The condition unit: contact configuration kept (R18, R23, R30, R35, R145). -/
def CondUnit.softReset (c : CondUnit) : CondUnit :=
  { defaultCondUnit with
    contacts := Vector.ofFn fun k => (look c.contacts k).leaveReset
    shut := { defaultShut with asserted := c.shut.asserted } }

/-- A source: exposure and setpoints kept (R59). -/
def Source.softReset (x : Source) : Source :=
  { defaultSource with exposure := x.exposure, full := x.full, reduced := x.reduced, probe := x.probe }

/-- A span: configuration kept, the blocker view by the own ordinal (R79). -/
def Span.softReset (own : Ordinal) (r : Span) : Span :=
  { defaultSpan with config := r.config, view := if own = 0 then .notEmpty else .empty }

/-- A line: the expected far ordinal kept, the line timer started with the line timeout of the active profile (R124), and
the word most recently sent kept (DESIGN CHOICE, notes/assumptions/12.md). -/
def Line.softReset (timeout : Nat) (r : Line) : Line :=
  { defaultLine with timer := some timeout, expected := r.expected, sent := r.sent }

/-- The host link unit: the notify mask kept, one START record (R165, R168, R170, R171, R173, R174). -/
def HostLink.softReset (l : HostLink) : HostLink :=
  { defaultLink with
    reports := [.start .soft], notify := l.notify, attention := attentionOf [.start .soft] l.notify }

/-- The soft reset (R176): configuration, the hazard map and the profiles are kept (R4, R38, R134), every run-time value
goes to its reset value, and the timestamp count restarts. Nothing stays in transit (notes/assumptions/15.md). -/
def State.softReset (s : State) : State :=
  ({ s with
    now := 0
    front := { defaultFrontEnd with calib := s.front.calib }
    cond := s.cond.softReset
    map := { s.map with queue := [] }
    grant := { sources := Vector.ofFn fun i => (s.source i).softReset }
    ctrl := { spans := Vector.ofFn fun d => (s.span d).softReset s.words.own }
    words := { s.words with lines := Vector.ofFn fun d => (s.line d).softReset (s.limits d).lineTimeout }
    claim := defaultClaim
    capture := defaultCapture
    link := s.link.softReset
    transit := emptyTransit } : State).leaveReset

/-! ### The power-on reset -/

/-- The condition unit after a power-on reset, with the levels at its pins as they stand (R30, R35). -/
def CondUnit.powerOn (c : CondUnit) : CondUnit :=
  { defaultCondUnit with
    contacts := Vector.ofFn fun k => ({ defaultContact with level := (look c.contacts k).level } : Contact).leaveReset
    shut := { defaultShut with asserted := c.shut.asserted } }

/-- Every block at its power-on value (R79), the pins and the model's own fields as they stand. -/
def State.powerOn (s : State) : State :=
  ({ State.reset with
    cond := s.cond.powerOn, port := s.port, freeIndex := s.freeIndex, pending := s.pending } : State).leaveReset

/-- POWER_ON_RESET (R79). -/
def execPowerOnReset (s : State) : Result := .next s.powerOn

end Sys2Proof.Machine
end

