-- ==== Sys2Proof/Machine/HostLink.lean ====
section
/-! DEFINITION. Host link unit (spec 11): REPORT_ENQUEUE, HOST_BYTE_RECEIVED, CHARACTER_ERROR, RESYNC, GAP_TIMER_EXPIRY,
FRAME_COMPLETE, REPLY_SENT, and the requests READ_REPORTS, SET_NOTIFY, IDENTIFY, RESET_PART. -/

namespace Sys2Proof.Machine

/-! ### The report queue (R171, R174) -/

/-- The capacity of the report queue. -/
def reportCapacity : Nat := 32

/-- The link with a changed queue: the attention line is re-derived in the same event (R174). -/
def HostLink.withReports (l : HostLink) (rs : List Report) : HostLink :=
  { l with reports := rs, attention := attentionOf rs l.notify }

/-- A record reaches the queue (R171). -/
def HostLink.enqueue (l : HostLink) (r : Report) : HostLink :=
  if l.reports.length < reportCapacity then l.withReports (l.reports ++ [r]) else { l with overflow := true }

/-- The oldest report of a category in transit with the reports handed before it. A SOURCE report of a span state change
waits for the SPAN reports handed before it (R83). -/
def nextReport (c : Category) (l : List HandedReport) : Option Report :=
  match l.find? fun h => h.report.category == c with
  | none => none
  | some h =>
    if h.afterSpan && ((l.takeWhile fun g => g.report.category != c).any fun g => g.report.category == .span) then none
    else some h.report

/-- The reports in transit without the oldest of a category. -/
def dropReport (c : Category) (l : List HandedReport) : List HandedReport :=
  l.eraseP fun h => h.report.category == c

/-- REPORT_ENQUEUE (R171): the oldest report of the category's block in transit. -/
def execReportEnqueue (c : Category) (s : State) : Result :=
  match nextReport c s.transit.reports with
  | some r =>
    .next (({ s with transit := { s.transit with reports := dropReport c s.transit.reports } } : State).setLink
      (s.link.enqueue r))
  | none => .next s

/-! ### The receive framer (R165 to R167) -/

/-- The start byte of a frame. -/
def startByte : Byte := 0xA5

/-- The gap timer's 5 ms (R166). -/
def gapMs : Nat := 5

/-- The framer in HUNT with no partial frame and the gap timer stopped. -/
def HostLink.hunt (l : HostLink) : HostLink := { l with phase := .hunt, gap := none }

/-- The frame that length byte `len` and the bytes kept in BODY spell, where its two last bytes are its CRC-16 (R165,
R178, R179). -/
def frameOf? (len : Byte) (kept : List Byte) : Option Frame :=
  let body := kept.take len.toNat
  if kept.drop len.toNat = halfBytes (crc16 (len :: body)) then
    match body with
    | kind :: tag :: payload => some { kind := kind, tag := tag, payload := payload }
    | _ => none
  else none

/-- A byte kept in BODY (R165). -/
def State.keepByte (s : State) (len : Byte) (kept : List Byte) : State :=
  if kept.length < len.toNat + 2 then
    s.setLink { s.link with phase := .body len kept, gap := some gapMs }
  else
    let t := s.setLink s.link.hunt
    match frameOf? len kept with
    | some f => t.handFrame f
    | none => t

/-- A byte at the framer, by its phase (R165). -/
def State.frameByte (s : State) (b : Byte) : State :=
  match s.link.phase with
  | .hunt => if b = startByte then s.setLink { s.link with phase := .length, gap := some gapMs } else s
  | .length =>
    if 2 ≤ b.toNat ∧ b.toNat ≤ 122 then s.setLink { s.link with phase := .body b [], gap := some gapMs }
    else s.setLink s.link.hunt
  | .body len kept => s.keepByte len (kept ++ [b])

/-- HOST_BYTE_RECEIVED (R165). -/
def execHostByteReceived (b : Byte) (s : State) : Result := .next (s.frameByte b)

/-- CHARACTER_ERROR (R165): no effect in HUNT, else the partial frame is discarded. -/
def execCharacterError (s : State) : Result :=
  match s.link.phase with
  | .hunt => .next s
  | .length | .body .. => .next (s.setLink s.link.hunt)

/-- RESYNC (R167): the partial frame is discarded and a resync is handed to the claim unit. -/
def execResync (s : State) : Result := .next ((s.setLink s.link.hunt).handBreak .resync)

/-- GAP_TIMER_EXPIRY (R166): a timer that is stopped, or has time left, does not expire (notes/assumptions/2.md). -/
def execGapTimerExpiry (s : State) : Result :=
  if s.link.gap = some 0 then .next (s.setLink s.link.hunt) else .next s

/-! ### The request slots (R168 to R170) -/

/-- The kind code of RESET_PART (R181). -/
def resetPartKind : Byte := 0x24

/-- A request in hand is RESET_PART (R168). -/
def InHand.isResetPart (h : InHand) : Bool := checkRequest h.frame.kind h.frame.payload == .request .resetPart

/-- A request placed in hand is checked (R169 steps 1 and 2): refused by the host link unit, or left for its owning block
to take (step 3). -/
def State.placeInHand (s : State) (f : Frame) : State :=
  let t := s.setLink { s.link with hand := some { frame := f, answered := false } }
  match checkRequest f.kind f.payload with
  | .badKind => t.replyInHand [codeBadKind]
  | .badLength => t.replyInHand [codeBadLength]
  | .request _ => t

/-- The BUSY replies that are formed and not completely sent (R168). -/
def busyCount (l : List Reply) : Nat := (l.filter Reply.busy).length

/-- The bound on unsent BUSY replies (R168, R170). -/
def busyLimit : Nat := 8

/-- A BUSY reply at the end of the reply list (R168). -/
def State.replyBusy (s : State) (f : Frame) : State :=
  s.setLink { s.link with replies := s.link.replies ++ [{ busy := true, bytes := replyBytes f [codeBusy] }] }

/-- A complete frame placed by the state of the slots (R168). -/
def State.placeFrame (s : State) (f : Frame) : State :=
  match s.link.hand, s.link.waiting with
  | none, _ => s.placeInHand f
  | some h, none => if h.isResetPart then s else s.setLink { s.link with waiting := some f }
  | some h, some _ =>
    if h.isResetPart then s else if busyCount s.link.replies < busyLimit then s.replyBusy f else s

/-- FRAME_COMPLETE (R168): the oldest complete frame in transit. -/
def execFrameComplete (s : State) : Result :=
  match s.transit.frames with
  | f :: rest => .next (({ s with transit := { s.transit with frames := rest } } : State).placeFrame f)
  | [] => .next s

/-- The in-hand slot empties, and a request in the waiting slot moves into it and is taken in the same event (R168,
R170). -/
def State.emptyHand (s : State) : State :=
  match s.link.waiting with
  | some f => (s.setLink { s.link with hand := none, waiting := none }).placeInHand f
  | none => s.setLink { s.link with hand := none }

/-- The last byte of the in-hand request's reply has been sent: the soft reset after RESET_PART (R176), else the next
request (R170). -/
def State.handSent (s : State) : State :=
  match s.link.hand with
  | some h => if h.isResetPart then s.softReset else s.emptyHand
  | none => s

/-- REPLY_SENT (R170): the last byte of the reply at the head of the list has been sent. A BUSY reply leaves the list
and nothing else happens (notes/assumptions/9.md). -/
def execReplySent (s : State) : Result :=
  match s.link.replies with
  | r :: rest =>
    let t := s.setLink { s.link with replies := rest }
    .next (if r.busy then t else t.handSent)
  | [] => .next s

/-! ### Requests -/

/-- The most records a READ_REPORTS returns (R172). -/
def readLimit : Nat := 8

/-- READ_REPORTS (R172). -/
def State.takeReadReports (s : State) : State × List Byte :=
  let rs := s.link.reports.take readLimit
  (s.setLink { s.link.withReports (s.link.reports.drop readLimit) with overflow := false },
    [codeOk, boolByte s.link.overflow, byteOf rs.length] ++ rs.flatMap Report.bytes)

def execReadReports (s : State) : Result := .next (State.serve .readReports s.takeReadReports)

/-- SET_NOTIFY (R173). -/
def State.takeSetNotify (s : State) (m : Byte) : State × List Byte :=
  match set? m with
  | some x => (s.setLink { s.link with notify := x, attention := attentionOf s.link.reports x }, [codeOk, setByte x])
  | none => (s, [codeBadValue])

def execSetNotify (m : Byte) (s : State) : Result := .next (State.serve (.setNotify m) (s.takeSetNotify m))

/-- IDENTIFY (R175): part code 0416h, revision 1. -/
def State.takeIdentify (s : State) : State × List Byte :=
  (s, [codeOk, 0x04, 0x16, 1] ++ halfBytes (s.words.own.setWidth 16)
    ++ [byteOf s.store.active.val, setByte s.link.notify])

def execIdentify (s : State) : Result := .next (State.serve .identify s.takeIdentify)

/-- The frame that a RESET_PART command without a frame stands for: tag 0, no payload (notes/assumptions/8.md). -/
def resetPartFrame : Frame := { kind := resetPartKind, tag := 0, payload := [] }

/-- RESET_PART (R176): taken in hand, its reply OK is formed; the soft reset follows when that reply has been sent
(REPLY_SENT). A command that stands in no slot is first placed as its frame would be. -/
def execResetPart (s : State) : Result :=
  let t := if s.awaits = some .resetPart then s else s.placeFrame resetPartFrame
  .next (if t.awaits = some .resetPart then t.replyInHand [codeOk] else t)

end Sys2Proof.Machine
end

