-- ==== Sys2Proof/Machine/Profiles.lean ====
section
/-! DEFINITION. Profile store (spec 08): the requests SET_PROFILE, GET_PROFILE, SELECT_PROFILE. -/

namespace Sys2Proof.Machine

/-- The fourteen numeric values clamped to their ranges (R134, R136), with the auto-restart switch. DESIGN CHOICE, unsafe:
the three hysteresis widths, differences whose range does not reach below 0, are read unsigned (R177;
notes/assumptions/37.md). -/
def clampLimits (l : RawLimits) (auto : Bool) : Limits :=
  { darkLevel := clampInt (-5000) 0 l.darkLevel.toInt
    darkHyst := clampInt 50 600 l.darkHyst.toNat
    darkRaise := clampNat 1 64 l.darkRaise.toNat
    darkClear := clampNat 1 4000 l.darkClear.toNat
    reflectLimit := clampInt (-4000) (-800) l.reflectLimit.toInt
    reflectHyst := clampInt 50 600 l.reflectHyst.toNat
    reflectRaise := clampNat 1 64 l.reflectRaise.toNat
    reflectClear := clampNat 1 4000 l.reflectClear.toNat
    outFloor := clampInt (-3000) 1000 l.outFloor.toInt
    pumpLimit := clampInt (-3000) 2000 l.pumpLimit.toInt
    pumpHyst := clampInt 50 600 l.pumpHyst.toNat
    pumpRaise := clampNat 1 64 l.pumpRaise.toNat
    pumpClear := clampNat 1 4000 l.pumpClear.toNat
    lineTimeout := clampNat 10 100 l.lineTimeout.toNat
    autoRestart := auto }

/-- The values as given: signed where the range reaches below 0, unsigned otherwise (R177; notes/assumptions/37.md). -/
def rawLimits (l : RawLimits) (auto : Bool) : Limits :=
  { darkLevel := l.darkLevel.toInt, darkHyst := l.darkHyst.toNat, darkRaise := l.darkRaise.toNat,
    darkClear := l.darkClear.toNat, reflectLimit := l.reflectLimit.toInt, reflectHyst := l.reflectHyst.toNat,
    reflectRaise := l.reflectRaise.toNat, reflectClear := l.reflectClear.toNat, outFloor := l.outFloor.toInt,
    pumpLimit := l.pumpLimit.toInt, pumpHyst := l.pumpHyst.toNat, pumpRaise := l.pumpRaise.toNat,
    pumpClear := l.pumpClear.toNat, lineTimeout := l.lineTimeout.toNat, autoRestart := auto }

/-- The values of one degree and the class mask stored in one profile (R136). -/
def ProfileStore.write (p : ProfileStore) (n : ProfileNo) (d : Degree) (l : Limits) (m : ClassMask) : ProfileStore :=
  { p with profiles := put p.profiles n { limits := put (look p.profiles n).limits d l, mask := m } }

/-- SET_PROFILE (R136). -/
def State.takeSetProfile (s : State) (p d : Byte) (l : RawLimits) (auto mask : Byte) : State × List Byte :=
  match index? 2 p, index? 4 d, switch? auto, set? mask with
  | some p, some d, some a, some m =>
    ({ s with store := s.store.write p d (clampLimits l a) m }, [okOrClamped (clampLimits l a != rawLimits l a)])
  | _, _, _, _ => (s, [codeBadValue])

def execSetProfile (p d : Byte) (l : RawLimits) (auto mask : Byte) (s : State) : Result :=
  .next (State.serve (.setProfile p d l auto mask) (s.takeSetProfile p d l auto mask))

/-- The fifteen values of one degree in SET_PROFILE order (R187). -/
def limitsBytes (l : Limits) : List Byte :=
  intBytes l.darkLevel ++ intBytes l.darkHyst ++ natBytes l.darkRaise ++ natBytes l.darkClear
    ++ intBytes l.reflectLimit ++ intBytes l.reflectHyst ++ natBytes l.reflectRaise ++ natBytes l.reflectClear
    ++ intBytes l.outFloor ++ intBytes l.pumpLimit ++ intBytes l.pumpHyst ++ natBytes l.pumpRaise
    ++ natBytes l.pumpClear ++ natBytes l.lineTimeout ++ [boolByte l.autoRestart]

/-- GET_PROFILE (R138, R187). -/
def State.takeGetProfile (s : State) (p d : Byte) : State × List Byte :=
  match index? 2 p, index? 4 d with
  | some n, some e =>
    (s, [codeOk, p, d] ++ limitsBytes (look (look s.store.profiles n).limits e)
      ++ [setByte (look s.store.profiles n).mask, byteOf s.store.active.val])
  | _, _ => (s, [codeBadValue])

def execGetProfile (p d : Byte) (s : State) : Result :=
  .next (State.serve (.getProfile p d) (s.takeGetProfile p d))

/-- The switch to profile `n` (R139): the selector, and what the profile store hands to the condition unit, the claim
unit and the hazard map, whose re-evaluation keeps its place among the keys that wait (R141). -/
def State.switchTo (s : State) (n : ProfileNo) : State :=
  (((({ s with store := { s.store with active := n } } : State).handZeroing).handBreak .profile).setQueue
    (s.map.queue ++ [.reevaluate]))

/-- SELECT_PROFILE (R139): the profile already active changes nothing. -/
def State.takeSelectProfile (s : State) (p : Byte) : State × List Byte :=
  match index? 2 p with
  | none => (s, [codeBadValue])
  | some n => (if n = s.store.active then s else s.switchTo n, [codeOk])

def execSelectProfile (p : Byte) (s : State) : Result :=
  .next (State.serve (.selectProfile p) (s.takeSelectProfile p))

end Sys2Proof.Machine
end

