-- ==== Sys2Proof/Config.lean ====
section
/-! DEFINITION. The free values of the model: what the spec leaves without a value. Each is a constant with no body, so
that no proof can rest on what it is. -/

namespace Sys2Proof

/-- The free byte with number `n`. The only use is in the reply of GET_LINE before any span word has been sent on the
degree: R133 asks for the state code and the flags "of the word most recently sent" and states none for that case
(notes/assumptions/12.md). -/
opaque Config.freeByte : Nat → Byte

end Sys2Proof
end

