-- ==== Sys2Proof/Machine/SpanWords.lean ====
section
/-! DEFINITION. Span word unit (spec 07): SPAN_WORD_SEND, SPAN_WORD_RECEIVED, LINE_TIMER_EXPIRY, and the requests SET_SITE
and GET_LINE. -/

namespace Sys2Proof.Machine

/-! ### Sending -/

/-- LIGHT_SEEN: the active condition list holds no DARK_IN(d) record, pending or not (R123). -/
def State.lightSeen (s : State) (d : Degree) : Bool := (s.record? (degreeKey .darkIn d)).isNone

/-- The span word of degree `d`, formed from the state standing now (R122, R123, R180). -/
def State.wordNow (s : State) (d : Degree) : List Byte :=
  let r := s.span d
  spanWordBytes s.words.own d (stateCode r.state) (sentFlags r.state r.asserting (s.lightSeen d))

/-- SPAN_WORD_SEND (R122). -/
def execSpanWordSend (d : Degree) (s : State) : Result :=
  .next (s.setLine d { s.line d with sent := some (s.wordNow d) })

/-! ### Receiving -/

/-- A count that stops at 65535 (R124). -/
def countTo65535 (n : Nat) : Nat := min 65535 (n + 1)

/-- The recovery run raised by one, up to 3 (R127, R130). -/
def raiseRun (n : Nat) : Nat := min 3 (n + 1)

/-- A raise or a clear that the span word unit has decided is handed to the condition unit: a raise where the condition
was not raised and now is, a clear with cause NORMAL where it was and is no longer (R128). -/
def State.lineDecides (s : State) (k : Key) (old new : Bool) : State :=
  if new && !old then s.raise k else if old && !new then s.clearDue k .normal else s

/-- A discarded word (R125). -/
def Line.discard (r : Line) : Line := { r with recovery := 0, discarded := countTo65535 r.discarded }

/-- A mismatched word: its count, the recovery run, and while the line is up the line timer and MISWIRE (R126). -/
def State.mismatchWord (s : State) (d : Degree) : State :=
  let r := s.line d
  let x : Line := { r with recovery := 0, mismatched := countTo65535 r.mismatched }
  if r.lost then s.setLine d x
  else (s.setLine d { x with timer := some (s.limits d).lineTimeout, miswire := true }).lineDecides
    (degreeKey .miswire d) r.miswire true

/-- The line record after an accepted word (R127 steps 1 and 2), with the conditions the word decides (R128). -/
def Line.accept (r : Line) (timeout : Nat) (w : FarWord) : Line :=
  { r with far := some w, lost := false, shut := w.shut, lockout := w.lockout, miswire := false,
           timer := some timeout, recovery := raiseRun r.recovery }

/-- An accepted word (R127): the record, then MISWIRE, FAR_SHUT and FAR_LOCK to the condition unit in this order, then
the word to the span controller. -/
def State.acceptWord (s : State) (d : Degree) (w : FarWord) : State :=
  let r := s.line d
  ((((s.setLine d (r.accept (s.limits d).lineTimeout w)).lineDecides (degreeKey .miswire d) r.miswire false).lineDecides
    (degreeKey .farShut d) r.shut w.shut).lineDecides (degreeKey .farLock d) r.lockout w.lockout).handLine d (.farWord w)

/-- A recovery word (R130): below a run of 3 the run alone; at 3 LINE_LOST is cleared and the word is accepted. -/
def State.recoverWord (s : State) (d : Degree) (w : FarWord) : State :=
  let r := s.line d
  if r.recovery + 1 < 3 then s.setLine d { r with recovery := r.recovery + 1 }
  else ((s.setLine d { r with recovery := 3, lost := false }).clearDue (degreeKey .lineLost d) .normal).acceptWord d w

/-- A matching word: its count, then R127 or R130 (R125). -/
def State.matchWord (s : State) (d : Degree) (w : FarWord) : State :=
  let t := s.setLine d { s.line d with accepted := countTo65535 (s.line d).accepted }
  if (s.line d).lost then t.recoverWord d w else t.acceptWord d w

/-- A whole word classed at its sixth byte (R125, R180). -/
def State.takeWord (s : State) (d : Degree) (bytes : List Byte) : State :=
  match farWord? bytes with
  | none => s.setLine d (s.line d).discard
  | some w =>
    if (s.line d).expected ≠ 0 ∧ (s.line d).expected ≠ w.ordinal then s.mismatchWord d else s.matchWord d w

/-- The receive state of the line. -/
def State.setReceiving (s : State) (d : Degree) (l : Option (List Byte)) : State :=
  s.setLine d { s.line d with receiving := l }

/-- The sync byte of a span word (R180). -/
def syncByte : Byte := 0xC3

/-- One byte on the supervisory line of degree `d` (R180). -/
def State.receiveByte (d : Degree) (s : State) (b : Byte) : State :=
  match (s.line d).receiving with
  | none => if b = syncByte then s.setReceiving d (some [b]) else s
  | some l =>
    if l.length + 1 < 6 then s.setReceiving d (some (l ++ [b])) else (s.setReceiving d none).takeWord d (l ++ [b])

/-- The line falls idle for longer than one byte time: an open word is cut short and discarded (R125, R180). -/
def State.fallIdle (s : State) (d : Degree) : State :=
  match (s.line d).receiving with
  | some _ => s.setLine d { (s.line d).discard with receiving := none }
  | none => s

/-- SPAN_WORD_RECEIVED (R125): the bytes that arrive back to back, then idle for longer than one byte time where `idle`
says so. -/
def execSpanWordReceived (d : Degree) (bytes : List Byte) (idle : Bool) (s : State) : Result :=
  let t := bytes.foldl (State.receiveByte d) s
  .next (if idle then t.fallIdle d else t)

/-! ### Line loss -/

/-- LINE_TIMER_EXPIRY (R129): a timer that is stopped, or has time left, does not expire (notes/assumptions/2.md). -/
def execLineTimerExpiry (d : Degree) (s : State) : Result :=
  let r := s.line d
  if r.timer = some 0 then
    .next ((s.setLine d { r with lost := true, recovery := 0, timer := none }).lineDecides (degreeKey .lineLost d)
      r.lost true)
  else .next s

/-! ### Requests -/

/-- An ordinal of SET_SITE as stored (R132). -/
def siteOrdinal (h : Half) : Ordinal := BitVec.ofNat 12 (clampNat 0 4095 h.toNat)

/-- An ordinal of SET_SITE is outside 0 … 4095 (R132). -/
def ordinalClamped (h : Half) : Bool := decide (4095 < h.toNat)

/-- The own and the four expected ordinals stored (R132 step 1). -/
def WordUnit.setSite (u : WordUnit) (own : Ordinal) (far : Vector Ordinal 4) : WordUnit :=
  { own := own, lines := Vector.ofFn fun d => { look u.lines d with expected := look far d } }

/-- SET_SITE (R132): a change of the own ordinal is handed to the span controller for each degree. -/
def State.takeSetSite (s : State) (own far0 far1 far2 far3 : Half) : State × List Byte :=
  let o := siteOrdinal own
  let far : Vector Ordinal 4 := #v[siteOrdinal far0, siteOrdinal far1, siteOrdinal far2, siteOrdinal far3]
  let t : State := { s with words := s.words.setSite o far }
  let crossing := (s.words.own == 0) != (o == 0)
  (if o = s.words.own then t else (List.finRange 4).foldl (fun t d => t.handLine d (.ordinal crossing)) t,
    [okOrClamped ([own, far0, far1, far2, far3].any ordinalClamped)])

def execSetSite (own far0 far1 far2 far3 : Half) (s : State) : Result :=
  .next (State.serve (.setSite own far0 far1 far2 far3) (s.takeSetSite own far0 far1 far2 far3))

/-- The raised states: bit 0 LINE_LOST, bit 1 FAR_SHUT, bit 2 FAR_LOCK, bit 3 MISWIRE (R187). -/
def raisedByte (r : Line) : Byte :=
  0#4 ++ BitVec.ofBool r.miswire ++ BitVec.ofBool r.lockout ++ BitVec.ofBool r.shut ++ BitVec.ofBool r.lost

/-- The degree, the state code and the flag bits of a far word; FFh each when there is none (R185, R187). -/
def farFieldBytes : Option FarWord → List Byte
  | some w => [byteOf w.degree.val, w.code.setWidth 8, w.flags.setWidth 8]
  | none => [0xFF, 0xFF, 0xFF]

/-- The state code and the flag bits of byte 3 of a word sent (R180, R187). -/
def sentFieldBytes (l : List Byte) : List Byte :=
  [((l.getD 3 0).extractLsb' 5 3).setWidth 8, ((l.getD 3 0).extractLsb' 0 5).setWidth 8]

/-- The GET_LINE reply up to the last word sent (R133, R187). -/
def State.lineBytes (s : State) (d : Degree) : List Byte :=
  let r := s.line d
  codeOk :: halfBytes (s.words.own.setWidth 16) ++ halfBytes (r.expected.setWidth 16) ++ [raisedByte r]
    ++ farOrdinalBytes r.far ++ farFieldBytes r.far ++ timerBytes r.timer ++ [byteOf r.recovery]
    ++ natBytes r.accepted ++ natBytes r.mismatched ++ natBytes r.discarded

/-- GET_LINE (R133). Before any word has been sent on the degree its last two bytes are free values
(notes/assumptions/12.md). -/
def State.takeGetLine (s : State) (d : Byte) : State × List Byte :=
  match index? 4 d with
  | none => (s, [codeBadValue])
  | some d =>
    match (s.line d).sent with
    | some l => (s, s.lineBytes d ++ sentFieldBytes l)
    | none =>
      ({ s with freeIndex := s.freeIndex + 2 },
        s.lineBytes d ++ [Config.freeByte s.freeIndex, Config.freeByte (s.freeIndex + 1)])

def execGetLine (d : Byte) (s : State) : Result := .next (State.serve (.getLine d) (s.takeGetLine d))

end Sys2Proof.Machine
end

