-- ==== Sys2Proof/Machine/Spans.lean ====
section
/-! DEFINITION. Span controller (spec 05, 06): what it is handed, its timers, far words and numbering, and the requests
SET_SPAN, LOCK, RESUME, UNLOCK, GET_SPAN, PROBE_NOW. -/

namespace Sys2Proof.Machine

/-! ### Orders, clears and re-examinations -/

/-- CUT_ORDER (R89): the oldest event handed to the span controller, where it is a cut order. -/
def execCutOrder (s : State) : Result :=
  match s.transit.toSpan with
  | .cut d k :: rest => .next (({ s with transit := { s.transit with toSpan := rest } } : State).takeCut d k)
  | .lock .. :: _ | .clear .. :: _ | .reexamine _ :: _ | [] => .next s

/-- LOCK_ORDER (R90): the oldest event handed to the span controller, where it is a lock order. -/
def execLockOrder (s : State) : Result :=
  match s.transit.toSpan with
  | .lock d c :: rest => .next (({ s with transit := { s.transit with toSpan := rest } } : State).takeLock d c)
  | .cut .. :: _ | .clear .. :: _ | .reexamine _ :: _ | [] => .next s

/-- A clear of DARK_IN(d) or FAR_SHUT(d) tests the confirmation of a probe on d (R112). -/
def testsConfirmation (k : Key) : Option Degree :=
  match k.kind with
  | .darkIn | .farShut => k.degree
  | .reflect | .pumpReflect | .monitorFault | .lineLost | .farLock | .miswire | .guardOpen | .keyOpen | .masterShut =>
    none

/-- A clear at the span controller (R21, R81): the condition view, the re-examination of the degrees the record withheld,
ascending, the confirmation of a probe by the last good far word. All of it is this one event: R21 step 4 has the clear,
taken, re-examine those degrees, where R93 takes each re-examination as one event for its degree (DEDUCED,
notes/assumptions/31.md). -/
def State.takeSpanClear (s : State) (k : Key) (withheld : DegSet) : State :=
  let seen := match k.degree with
    | some d => s.setSpan d ((s.span d).see d k false)
    | none => s
  let t := (DegSet.toList withheld).foldl State.reexamine seen
  match testsConfirmation k with
  | some d => t.testConfirmation d (t.line d).far
  | none => t

/-- CLEAR_AT_SPAN_CONTROLLER (R81): the oldest event handed to the span controller, where it is a clear. -/
def execClearAtSpanController (s : State) : Result :=
  match s.transit.toSpan with
  | .clear k w :: rest => .next (({ s with transit := { s.transit with toSpan := rest } } : State).takeSpanClear k w)
  | .cut .. :: _ | .lock .. :: _ | .reexamine _ :: _ | [] => .next s

/-- BLOCKER_REEXAMINATION (R93): the oldest event handed to the span controller, where it is a re-examination. -/
def execBlockerReexamination (s : State) : Result :=
  match s.transit.toSpan with
  | .reexamine d :: rest => .next (({ s with transit := { s.transit with toSpan := rest } } : State).reexamine d)
  | .cut .. :: _ | .lock .. :: _ | .clear .. :: _ | [] => .next s

/-! ### Timers: a stopped timer does not expire (R84), and a running one only at 0 (notes/assumptions/2.md) -/

/-- SETTLE_EXPIRY (R94): the span leaves DARK by the entry into AWAIT. -/
def execSettleExpiry (d : Degree) (s : State) : Result :=
  if (s.span d).settle = some 0 ∧ (s.span d).state = .dark then .next (s.enterAwait d .settled id) else .next s

/-- What an interval expiry does in AWAIT (R104). -/
def State.intervalInAwait (s : State) (d : Degree) : State :=
  let reloaded : Span := { s.span d with interval := some (s.span d).config.intervalMs }
  if (s.limits d).autoRestart then
    match (s.span d).role with
    | .leading => s.enterProbe d .interval id
    | .trailing => s.setSpan d reloaded.assertRequest
    | .unknown => s.setSpan d reloaded
  else s.setSpan d reloaded

/-- INTERVAL_EXPIRY (R103): the request-honoured mark cleared, then by state. -/
def execIntervalExpiry (d : Degree) (s : State) : Result :=
  let t := s.setSpan d { s.span d with honoured := false }
  if (s.span d).interval = some 0 then
    match (s.span d).state with
    | .dark => .next (t.setSpan d { t.span d with interval := some (t.span d).config.intervalMs })
    | .await => .next (t.intervalInAwait d)
    | .lit | .ramp | .probe | .held | .locked => .next s
  else .next s

/-- The end of an automatic probe by its timer (R115). -/
def State.failProbe (s : State) (d : Degree) : State :=
  let n := countUp (s.span d).failed
  if (s.span d).config.probeLimit ≤ n then s.moveSpan d .held .exhausted (fun r => { r with failed := n }) none
  else s.enterAwait d .probeTimeout fun r => { r with failed := n }

/-- PROBE_TIMER_EXPIRY (R115, R116): by the origin of the probe. -/
def execProbeTimerExpiry (d : Degree) (s : State) : Result :=
  if (s.span d).probeTimer = some 0 ∧ (s.span d).state = .probe then
    match (s.span d).origin with
    | some .manualFromHeld => .next (s.moveSpan d .held .probeTimeout id none)
    | some .manualFromAwait => .next (s.enterAwait d .probeTimeout id)
    | some .automatic | none => .next (s.failProbe d)
  else .next s

/-- REQUEST_TIMER_EXPIRY (R107): the assertion is withdrawn. -/
def execRequestTimerExpiry (d : Degree) (s : State) : Result :=
  if (s.span d).request = some 0 then .next (s.setSpan d (s.span d).withdrawRequest) else .next s

/-- One ramp step (R118). -/
def State.stepRamp (s : State) (d : Degree) : State :=
  let r := s.span d
  let left := r.remaining - r.config.rampStep
  if left = 0 then s.moveSpan d .lit .rampDone id none
  else
    let t := s.setSpan d { r with remaining := left, rampTimer := some r.config.rampInterval }
    t.recomputeAll false (t.exposedOn d)

/-- RAMP_STEP_EXPIRY (R118). -/
def execRampStepExpiry (d : Degree) (s : State) : Result :=
  if (s.span d).rampTimer = some 0 ∧ (s.span d).state = .ramp then .next (s.stepRamp d) else .next s

/-! ### Far words and numbering -/

/-- Step 2 of R108: a word that carries PROBING withdraws a standing request. -/
def State.withdrawOn (s : State) (d : Degree) (w : FarWord) : State :=
  if w.probing && (s.span d).asserting then s.setSpan d (s.span d).withdrawRequest else s

/-- Step 3 of R108: the reply probe (R110). -/
def State.replyProbe (s : State) (d : Degree) (w : FarWord) : State :=
  if (s.span d).state = .await ∧ w.probing ∧ !(s.span d).seenDark then s.enterProbe d .farProbe id else s

/-- Step 4 of R108: the far request (R109). -/
def State.farRequest (s : State) (d : Degree) (w : FarWord) : State :=
  if (s.span d).state = .await ∧ w.probeReq ∧ (s.span d).role = .leading ∧ (s.limits d).autoRestart
      ∧ !(s.span d).honoured then
    s.enterProbe d .farRequest fun r => { r with honoured := true }
  else s

/-- An accepted far word at the span controller, in the five steps of R108, every one of which reads this word: R127
has the role formed from this word's ordinal, and it is the last good far word of its event (notes/assumptions/21.md). -/
def State.takeFarWord (s : State) (d : Degree) (w : FarWord) : State :=
  ((((s.setRole d (some w)).withdrawOn d w).replyProbe d w).farRequest d w).testConfirmation d (some w)

/-- FAR_WORD_AT_SPAN_CONTROLLER (R108): the oldest event of the degree from the span word unit, where it is a far word. -/
def execFarWordAtSpanController (d : Degree) (s : State) : Result :=
  match oldest s.transit.fromLine d with
  | some (.farWord w) =>
    .next (({ s with transit := { s.transit with fromLine := dropOldest s.transit.fromLine d } } : State).takeFarWord d w)
  | some (.ordinal _) | none => .next s

/-- A change of the own ordinal at the span controller (R132 step 2), which reads the last good far word. -/
def State.takeOrdinalChange (s : State) (d : Degree) (crossing : Bool) : State :=
  (if crossing then s.reexamine d else s).setRole d (s.line d).far

/-- SITE_ORDINAL_CHANGE (R132): the oldest event of the degree from the span word unit, where it is such a change. -/
def execSiteOrdinalChange (d : Degree) (s : State) : Result :=
  match oldest s.transit.fromLine d with
  | some (.ordinal b) =>
    .next (({ s with transit := { s.transit with fromLine := dropOldest s.transit.fromLine d } } : State).takeOrdinalChange
      d b)
  | some (.farWord _) | none => .next s

/-! ### Requests -/

/-- The eight values clamped to their ranges (R85, R86). DESIGN CHOICE, unsafe: ramp depth and ramp step, differences whose
range does not reach below 0, are read unsigned (R177; notes/assumptions/37.md). -/
def clampSpanConfig (c : RawSpanConfig) : SpanConfig :=
  { hazardLimit := clampInt (-1000) 2000 c.hazardLimit.toInt
    restartInterval := clampNat 20 300 c.restartInterval.toNat
    probeTime := clampNat 5 30 c.probeTime.toNat
    probeLimit := clampNat 1 15 c.probeLimit.toNat
    settleTime := clampNat 100 5000 c.settleTime.toNat
    rampDepth := clampNat 0 3000 c.rampDepth.toNat
    rampStep := clampNat 10 1000 c.rampStep.toNat
    rampInterval := clampNat 20 1000 c.rampInterval.toNat }

/-- The eight values as given: signed where the range reaches below 0, unsigned otherwise (R177;
notes/assumptions/37.md). -/
def rawSpanConfig (c : RawSpanConfig) : SpanConfig :=
  { hazardLimit := c.hazardLimit.toInt, restartInterval := c.restartInterval.toNat, probeTime := c.probeTime.toNat,
    probeLimit := c.probeLimit.toNat, settleTime := c.settleTime.toNat, rampDepth := c.rampDepth.toNat,
    rampStep := c.rampStep.toNat, rampInterval := c.rampInterval.toNat }

/-- SET_SPAN (R86): the values stored, and the grants of the degree's exposed sources recomputed in the same event
(R72). -/
def State.takeSetSpan (s : State) (d : Byte) (c : RawSpanConfig) : State × List Byte :=
  match index? 4 d with
  | none => (s, [codeBadValue])
  | some d =>
    let t := s.setSpan d { s.span d with config := clampSpanConfig c }
    (t.recomputeAll false (t.exposedOn d), [okOrClamped (clampSpanConfig c != rawSpanConfig c)])

def execSetSpan (d : Byte) (c : RawSpanConfig) (s : State) : Result :=
  .next (State.serve (.setSpan d c) (s.takeSetSpan d c))

/-- LOCK (R91): a lock order with cause COMMAND. -/
def State.takeLockRequest (s : State) (d : Byte) : State × List Byte :=
  match index? 4 d with
  | none => (s, [codeBadValue])
  | some d => (s.takeLock d .command, [codeOk])

def execLock (d : Byte) (s : State) : Result := .next (State.serve (.lock d) (s.takeLockRequest d))

/-- RESUME's precondition (R99). -/
def State.resumable (s : State) (d : Degree) : Reason := if (s.span d).state = .held then .pass else .stateRefused

/-- Release of span `d` to DARK with its failed-probe count 0 (R99, R100). -/
def State.release (c : SpanCause) (s : State) (d : Degree) : State :=
  s.enterDark d c (fun r => { r with failed := 0 }) none

/-- RESUME (R99). -/
def State.takeResume (s : State) (n : Byte) (l : List Byte) : State × List Byte :=
  s.spanCommit n l s.resumable (State.release .resume) codeOk

def execResume (n : Byte) (l : List Byte) (s : State) : Result :=
  .next (State.serve (.resume n l) (refuseIllFormed (degreesFit n l) s (s.takeResume n l)))

/-- A KEY_OPEN record whose key carries degree `d` or carries none stands in the list, pending or not (R100). -/
def State.keyStands (s : State) (d : Degree) : Bool :=
  s.cond.active.any fun r => r.key.kind == .keyOpen && (r.key.degree == some d || r.key.degree.isNone)

/-- UNLOCK's precondition (R100). -/
def State.unlockable (s : State) (d : Degree) : Reason :=
  if (s.span d).state ≠ .locked then .stateRefused else if s.keyStands d then .keyOpen else .pass

/-- UNLOCK (R100). -/
def State.takeUnlock (s : State) (n : Byte) (l : List Byte) : State × List Byte :=
  s.spanCommit n l s.unlockable (State.release .unlock) codeOk

def execUnlock (n : Byte) (l : List Byte) (s : State) : Result :=
  .next (State.serve (.unlock n l) (refuseIllFormed (degreesFit n l) s (s.takeUnlock n l)))

/-- PROBE_NOW's precondition (R117). DESIGN CHOICE, unsafe: the blocker set it reads is not written into the blocker view
(notes/assumptions/33.md). -/
def State.probeable (s : State) (d : Degree) : Reason :=
  if ((s.span d).state = .await ∨ (s.span d).state = .held) ∧ !s.blocked d then .pass else .stateRefused

/-- Entry of span `d` into a manual probe of a duration in ms (R111, R117). -/
def State.probeManually (ms : Nat) (s : State) (d : Degree) : State :=
  let o : ProbeOrigin := if (s.span d).state = .held then .manualFromHeld else .manualFromAwait
  s.moveSpan d .probe .manual (Span.startProbe o ms) none

/-- PROBE_NOW (R117): the duration in tenths of a second is clamped to 5 … 90. -/
def State.takeProbeNow (s : State) (n t : Byte) (l : List Byte) : State × List Byte :=
  let tenths := clampNat 5 90 t.toNat
  s.spanCommit n l s.probeable (State.probeManually (tenths * 100)) (okOrClamped (tenths != t.toNat))

def execProbeNow (n t : Byte) (l : List Byte) (s : State) : Result :=
  .next (State.serve (.probeNow n t l) (refuseIllFormed (degreesFit n l) s (s.takeProbeNow n t l)))

/-- The configuration in SET_SPAN order (R185). -/
def spanConfigBytes (c : SpanConfig) : List Byte :=
  intBytes c.hazardLimit ++ natBytes c.restartInterval ++ [byteOf c.probeTime, byteOf c.probeLimit]
    ++ natBytes c.settleTime ++ natBytes c.rampDepth ++ natBytes c.rampStep ++ natBytes c.rampInterval

/-- The condition view: bit 0 DARK_IN, bit 1 FAR_SHUT, bit 2 MISWIRE (R185). -/
def viewByte (r : Span) : Byte :=
  0#5 ++ BitVec.ofBool r.seenMiswire ++ BitVec.ofBool r.seenShut ++ BitVec.ofBool r.seenDark

/-- GET_SPAN (R102, R121, R185). -/
def State.takeGetSpan (s : State) (d : Byte) : State × List Byte :=
  match index? 4 d with
  | none => (s, [codeBadValue])
  | some d =>
    let r := s.span d
    (s, codeOk :: s.snapshotBytes d
      ++ [roleByte r.role, boolByte r.honoured, boolByte r.asserting, originByte r.origin]
      ++ natBytes r.remaining ++ spanConfigBytes r.config ++ [viewByte r] ++ farFieldBytes (s.line d).far
      ++ timerBytes r.settle ++ timerBytes r.interval ++ timerBytes r.probeTimer ++ timerBytes r.rampTimer
      ++ timerBytes r.request)

def execGetSpan (d : Byte) (s : State) : Result := .next (State.serve (.getSpan d) (s.takeGetSpan d))

end Sys2Proof.Machine
end

