-- ==== Sys2Proof/Machine/Dispatch.lean ====
section
/-! DEFINITION. One arm per command, each a direct call of its meaning. -/

namespace Sys2Proof.Machine

def exec (i : Instr) (s : State) : Host.Outcome State Fault Refusal :=
  match i with
  | .powerOnReset => Sys2Proof.Machine.execPowerOnReset s
  | .monitorReading ch code valid => Sys2Proof.Machine.execMonitorReading ch code valid s
  | .historySample d => Sys2Proof.Machine.execHistorySample d s
  | .lookup => Sys2Proof.Machine.execLookup s
  | .snapshotWrite => Sys2Proof.Machine.execSnapshotWrite s
  | .forcedClear d => Sys2Proof.Machine.execForcedClear d s
  | .contactLevelChange k => Sys2Proof.Machine.execContactLevelChange k s
  | .debounceExpiry k => Sys2Proof.Machine.execDebounceExpiry k s
  | .masterShutAssertion => Sys2Proof.Machine.execMasterShutAssertion s
  | .masterShutDeassertion => Sys2Proof.Machine.execMasterShutDeassertion s
  | .clearDelayExpiry => Sys2Proof.Machine.execClearDelayExpiry s
  | .restrictionOrder => Sys2Proof.Machine.execRestrictionOrder s
  | .clearAtGrantUnit => Sys2Proof.Machine.execClearAtGrantUnit s
  | .removalOrder => Sys2Proof.Machine.execRemovalOrder s
  | .cutOrder => Sys2Proof.Machine.execCutOrder s
  | .lockOrder => Sys2Proof.Machine.execLockOrder s
  | .clearAtSpanController => Sys2Proof.Machine.execClearAtSpanController s
  | .blockerReexamination => Sys2Proof.Machine.execBlockerReexamination s
  | .settleExpiry d => Sys2Proof.Machine.execSettleExpiry d s
  | .intervalExpiry d => Sys2Proof.Machine.execIntervalExpiry d s
  | .probeTimerExpiry d => Sys2Proof.Machine.execProbeTimerExpiry d s
  | .requestTimerExpiry d => Sys2Proof.Machine.execRequestTimerExpiry d s
  | .rampStepExpiry d => Sys2Proof.Machine.execRampStepExpiry d s
  | .farWordAtSpanController d => Sys2Proof.Machine.execFarWordAtSpanController d s
  | .siteOrdinalChange d => Sys2Proof.Machine.execSiteOrdinalChange d s
  | .spanWordSend d => Sys2Proof.Machine.execSpanWordSend d s
  | .spanWordReceived d bytes idle => Sys2Proof.Machine.execSpanWordReceived d bytes idle s
  | .lineTimerExpiry d => Sys2Proof.Machine.execLineTimerExpiry d s
  | .captureTrigger d => Sys2Proof.Machine.execCaptureTrigger d s
  | .claimNotice n => Sys2Proof.Machine.execClaimNotice n s
  | .claimBreak c => Sys2Proof.Machine.execClaimBreak c s
  | .claimLifeExpiry => Sys2Proof.Machine.execClaimLifeExpiry s
  | .counterZeroing => Sys2Proof.Machine.execCounterZeroing s
  | .reevaluation => Sys2Proof.Machine.execReevaluation s
  | .rewrittenSnapshotWrite => Sys2Proof.Machine.execRewrittenSnapshotWrite s
  | .reportEnqueue c => Sys2Proof.Machine.execReportEnqueue c s
  | .hostByteReceived b => Sys2Proof.Machine.execHostByteReceived b s
  | .characterError => Sys2Proof.Machine.execCharacterError s
  | .resync => Sys2Proof.Machine.execResync s
  | .gapTimerExpiry => Sys2Proof.Machine.execGapTimerExpiry s
  | .frameComplete => Sys2Proof.Machine.execFrameComplete s
  | .replySent => Sys2Proof.Machine.execReplySent s
  | .setChannel channel dark gain => Sys2Proof.Machine.execSetChannel channel dark gain s
  | .getReading first count => Sys2Proof.Machine.execGetReading first count s
  | .setContact contact use level degree debounce => Sys2Proof.Machine.execSetContact contact use level degree debounce s
  | .getContact => Sys2Proof.Machine.execGetContact s
  | .getConditions position form => Sys2Proof.Machine.execGetConditions position form s
  | .putEntry placement target key cls count actions cut withhold => Sys2Proof.Machine.execPutEntry placement target key cls count actions cut withhold s
  | .parkEntry index => Sys2Proof.Machine.execParkEntry index s
  | .unparkEntry index => Sys2Proof.Machine.execUnparkEntry index s
  | .freeEntry index => Sys2Proof.Machine.execFreeEntry index s
  | .getEntry index => Sys2Proof.Machine.execGetEntry index s
  | .testKey key population filter => Sys2Proof.Machine.execTestKey key population filter s
  | .setSource source exposure degree full reduced probe => Sys2Proof.Machine.execSetSource source exposure degree full reduced probe s
  | .holdSource source hold => Sys2Proof.Machine.execHoldSource source hold s
  | .releaseLatch source => Sys2Proof.Machine.execReleaseLatch source s
  | .getSource source => Sys2Proof.Machine.execGetSource source s
  | .setSpan degree config => Sys2Proof.Machine.execSetSpan degree config s
  | .lock degree => Sys2Proof.Machine.execLock degree s
  | .resume count degrees => Sys2Proof.Machine.execResume count degrees s
  | .unlock count degrees => Sys2Proof.Machine.execUnlock count degrees s
  | .getSpan degree => Sys2Proof.Machine.execGetSpan degree s
  | .probeNow count duration degrees => Sys2Proof.Machine.execProbeNow count duration degrees s
  | .setSite own far0 far1 far2 far3 => Sys2Proof.Machine.execSetSite own far0 far1 far2 far3 s
  | .getLine degree => Sys2Proof.Machine.execGetLine degree s
  | .setProfile profile degree limits autoRestart mask => Sys2Proof.Machine.execSetProfile profile degree limits autoRestart mask s
  | .getProfile profile degree => Sys2Proof.Machine.execGetProfile profile degree s
  | .selectProfile profile => Sys2Proof.Machine.execSelectProfile profile s
  | .claim count degrees => Sys2Proof.Machine.execClaim count degrees s
  | .getClaim => Sys2Proof.Machine.execGetClaim s
  | .readCapture buffer page => Sys2Proof.Machine.execReadCapture buffer page s
  | .releaseCapture buffer => Sys2Proof.Machine.execReleaseCapture buffer s
  | .getCapture => Sys2Proof.Machine.execGetCapture s
  | .readReports => Sys2Proof.Machine.execReadReports s
  | .setNotify mask => Sys2Proof.Machine.execSetNotify mask s
  | .identify => Sys2Proof.Machine.execIdentify s
  | .resetPart => Sys2Proof.Machine.execResetPart s

end Sys2Proof.Machine
end

