-- ==== Sys2Proof/Safety.lean ====
section
/-! DEFINITION. What a safe state is: the rules of spec/ that speak of the whole part at every moment, as predicates over
the state. Each is claimed to hold after a reset and to be kept by every step. -/

namespace Sys2Proof.Machine

/-! ### Grants and restriction collections -/

/-- A restriction collection as R65 and R67 have it: at most 8 records, never two of one origin, a FLOOR record FOLLOW, a
LATCHED record LATCH, and an overflow mark only over a collection that is not empty. -/
structure CollectionSafe (x : Source) : Prop where
  capacity : x.restrictions.length ≤ 8
  origins : (x.restrictions.map Restriction.origin).Nodup
  floors : ∀ r ∈ x.restrictions, r.origin.entry = none → r.persistence = .follow
  latches : ∀ r ∈ x.restrictions, r.latched = true → r.persistence = .latch
  overflow : x.overflow = true → x.restrictions ≠ []

/-- Every collection is safe, and every floor order on its way to the grant unit is FOLLOW (R52, R53, R65). -/
structure State.CollectionsSafe (s : State) : Prop where
  collections : ∀ i, CollectionSafe (s.source i)
  orders : ∀ t c p o, GrantEvent.restriction t c p o ∈ s.transit.toGrant → o.entry = none → p = .follow

/-- The drive port of a source shows the grant that its record and the spans give now (R72 to R76). -/
structure PortSafe (spans : Vector Span 4) (x : Source) : Prop where
  grant : x.grant = grantOf spans x
  enable : x.enable = x.grant.isSome
  setpoint : x.setpoint = setpointOf x.grant

/-- Every port shows its grant. -/
def State.PortsSafe (s : State) : Prop := ∀ i, PortSafe s.ctrl.spans (s.source i)

/-- A source that MASTER_SHUT's floor order holds OFF (R75): its record stands, or it met a full collection
(notes/assumptions/30.md). -/
def ShutHeld (x : Source) : Prop :=
  x.lostShut = true ∨
    ∃ r ∈ x.restrictions, r.origin = shutFloor ∧ r.ceiling = .off ∧ r.persistence = .follow ∧ r.latched = false

/-- On their way to the grant unit, every order of MASTER_SHUT's floor is OFF and FOLLOW, and no removal carries FLOOR
(R53, R69). -/
structure State.ShutOrdersSafe (s : State) : Prop where
  orders : ∀ t c p o, GrantEvent.restriction t c p o ∈ s.transit.toGrant → o = shutFloor → c = .off ∧ p = .follow
  removals : ∀ o, GrantEvent.removal o ∈ s.transit.toGrant → o.entry ≠ none

/-! ### Spans -/

/-- A span record as R79 to R87, R94, R96, R107 and R118 have it. -/
structure SpanSafe (r : Span) : Prop where
  failed : r.failed ≤ 15
  litCount : r.state = .lit → r.failed = 0
  litSeen : r.state = .lit ∨ r.state = .ramp → r.seenDark = false ∧ r.seenShut = false
  settle : r.settle.isSome = true → r.state = .dark
  settled : r.state = .dark → (r.settle.isSome = true ↔ r.view = .empty)
  interval : r.interval.isSome = true ↔ r.state = .dark ∨ r.state = .await
  probeTimer : r.probeTimer.isSome = true ↔ r.state = .probe
  origin : r.origin.isSome = true ↔ r.state = .probe
  rampTimer : r.rampTimer.isSome = true ↔ r.state = .ramp
  remaining : if r.state = .ramp then 1 ≤ r.remaining ∧ r.remaining ≤ 3000 else r.remaining = 0
  request : r.request.isSome = r.asserting
  asserting : r.asserting = true → r.state = .await
  depth : r.config.rampDepth ≤ 3000

/-- Every span record is safe. -/
def State.SpansSafe (s : State) : Prop := ∀ d, SpanSafe (s.span d)

/-! ### The host link -/

/-- The replies in the list that are not BUSY replies. -/
def ownReplies (l : List Reply) : Nat := (l.filter fun r => !r.busy).length

/-- The request in hand has its reply formed. -/
def HostLink.answered (l : HostLink) : Bool := l.hand.any InHand.answered

/-- The host link unit as R165, R166, R168, R170, R171 and R174 have it. -/
structure LinkSafe (l : HostLink) : Prop where
  queue : l.reports.length ≤ 32
  attention : l.attention = attentionOf l.reports l.notify
  gap : l.gap.isSome = true ↔ l.phase ≠ .hunt
  frame : ∀ len kept, l.phase = .body len kept → 2 ≤ len.toNat ∧ len.toNat ≤ 122 ∧ kept.length < len.toNat + 2
  busy : busyCount l.replies ≤ 8
  own : ownReplies l.replies = if l.answered then 1 else 0
  waiting : l.waiting.isSome = true → l.hand.isSome = true

/-! ### Lines, captures, conditions, claims -/

/-- A line record as R124, R129, R130 and R180 have it. -/
structure LineSafe (r : Line) : Prop where
  run : r.recovery ≤ 3
  lostRun : r.lost = true → r.recovery < 3
  timer : r.timer.isSome = !r.lost
  counts : r.accepted ≤ 65535 ∧ r.mismatched ≤ 65535 ∧ r.discarded ≤ 65535
  receiving : ∀ l, r.receiving = some l → 1 ≤ l.length ∧ l.length < 6
  sent : ∀ l, r.sent = some l → l.length = 6

/-- Every line record is safe. -/
def State.LinesSafe (s : State) : Prop := ∀ d, LineSafe (s.line d)

/-- A capture buffer as R156 and R159 have it. -/
def BufferSafe : Buffer → Prop
  | .empty => True
  | .filling t => t.pre.length ≤ 64 ∧ t.post.length < 64
  | .complete t => t.pre.length ≤ 64 ∧ t.post.length = 64

/-- The rings and the buffers (R155, R156). -/
structure CaptureSafe (c : CaptureUnit) : Prop where
  rings : ∀ d, (look c.rings d).length ≤ 64
  buffers : ∀ b, BufferSafe (look c.buffers b)

/-- A condition record as R18, R19, R22 and R51 have it. -/
structure RecordSafe (r : CondRecord) : Prop where
  pending : r.pending = true → r.matched = [] ∧ r.withheld = 0
  clearDue : r.clearDue.isSome = true → r.pending = true
  matched : r.matched.Pairwise (· < ·)

/-- The active condition list holds no key twice and safe records only, and every snapshot on its way to it is in
ascending order (R18, R51, R143). -/
structure State.ConditionsSafe (s : State) : Prop where
  keys : (s.cond.active.map CondRecord.key).Nodup
  records : ∀ r ∈ s.cond.active, RecordSafe r
  snapshots : ∀ e ∈ s.transit.snapshots, (SnapshotEvent.keyed e).2.Pairwise (· < ·)

/-- The claim record as R144, R146 and R149 have it: one or two degrees, the numbers of exactly these, at most 10 s. -/
structure StandingSafe (c : Standing) : Prop where
  degrees : (DegSet.toList c.degrees).length = 1 ∨ (DegSet.toList c.degrees).length = 2
  recorded : c.recorded.map Recorded.degree = DegSet.toList c.degrees
  life : c.life ≤ 10000

/-- A claim that stands is safe. -/
def State.ClaimSafe (s : State) : Prop := ∀ c, s.claim.standing = some c → StandingSafe c

/-! ### Configuration -/

/-- An integer lies in a range. -/
def Within (lo hi v : Int) : Prop := lo ≤ v ∧ v ≤ hi

/-- A number lies in a range. -/
def Between (lo hi n : Nat) : Prop := lo ≤ n ∧ n ≤ hi

/-- The eight values of a span's configuration lie in the ranges of R85. -/
structure SpanConfigSafe (c : SpanConfig) : Prop where
  hazardLimit : Within (-1000) 2000 c.hazardLimit
  restartInterval : Between 20 300 c.restartInterval
  probeTime : Between 5 30 c.probeTime
  probeLimit : Between 1 15 c.probeLimit
  settleTime : Between 100 5000 c.settleTime
  rampDepth : Between 0 3000 c.rampDepth
  rampStep : Between 10 1000 c.rampStep
  rampInterval : Between 20 1000 c.rampInterval

/-- The numeric values of a profile lie in the ranges of R134. -/
structure LimitsSafe (l : Limits) : Prop where
  darkLevel : Within (-5000) 0 l.darkLevel
  darkHyst : Within 50 600 l.darkHyst
  darkRaise : Between 1 64 l.darkRaise
  darkClear : Between 1 4000 l.darkClear
  reflectLimit : Within (-4000) (-800) l.reflectLimit
  reflectHyst : Within 50 600 l.reflectHyst
  reflectRaise : Between 1 64 l.reflectRaise
  reflectClear : Between 1 4000 l.reflectClear
  outFloor : Within (-3000) 1000 l.outFloor
  pumpLimit : Within (-3000) 2000 l.pumpLimit
  pumpHyst : Within 50 600 l.pumpHyst
  pumpRaise : Between 1 64 l.pumpRaise
  pumpClear : Between 1 4000 l.pumpClear
  lineTimeout : Between 10 100 l.lineTimeout

/-- Every configuration value, and every power the front end produces, lies in the range its rule gives (R4, R7, R12,
R30, R59, R85, R134). -/
structure State.RangesSafe (s : State) : Prop where
  calib : ∀ c, Between 0 255 (look s.front.calib c).dark ∧ Within (-5000) 5000 (look s.front.calib c).gain
  readings : ∀ c, Within (-6000) 3000 (look s.front.last c).value
  heldOut : ∀ d v, look s.front.heldOut d = some v → Within (-6000) 3000 v
  ratio : ∀ d, Within (-9000) 9000 (look s.front.ratio d).r
  debounce : ∀ k, Between 1 64 (s.contact k).debounce
  setpoints : ∀ i, Within (-1000) 3000 (s.source i).full ∧ Within (-1000) 3000 (s.source i).reduced ∧
    Within (-1000) 3000 (s.source i).probe
  spans : ∀ d, SpanConfigSafe (s.span d).config
  profiles : ∀ n d, LimitsSafe (look (look s.store.profiles n).limits d)

/-! ### What the fields of a request spell -/

/-- The key whose three bytes a request gives (R184). -/
def SpellsKey (r : RawKey) (k : Key) : Prop := keyBytes k = [r.kind, r.degree, r.detail]

/-- A request's key is that of an entry: some instance of its kind could carry the parts it gives (R40). -/
def SpellsEntryKey (r : RawKey) (k : Key) : Prop :=
  SpellsKey r k ∧
    match k.kind with
    | .monitorFault => k.detail = none ∨
        ∃ c, k.detail = some (.channel c) ∧ (k.degree = none ∨ k.degree = some (chanDegree c))
    | .guardOpen | .keyOpen => k.detail = none ∨ ∃ n, k.detail = some (.contact n)
    | .masterShut => k.degree = none ∧ k.detail = none
    | .darkIn | .reflect | .pumpReflect | .lineLost | .farShut | .farLock | .miswire => k.detail = none

/-- A request's key is the full key of one condition instance (R40). -/
def SpellsTestedKey (r : RawKey) (k : Key) : Prop :=
  SpellsKey r k ∧
    match k.kind with
    | .monitorFault => ∃ c, k.detail = some (.channel c) ∧ k.degree = some (chanDegree c)
    | .guardOpen | .keyOpen => ∃ n, k.detail = some (.contact n)
    | .masterShut => k.degree = none ∧ k.detail = none
    | .darkIn | .reflect | .pumpReflect | .lineLost | .farShut | .farLock | .miswire =>
      k.degree ≠ none ∧ k.detail = none

/-- The content of a PUT_ENTRY passes R43's checks and is `c`: its key, a class of 0 to 3, a count of 0 to 4 with that many
actions on different sources, and two degree sets (R40, R42, R43, R183, R184). -/
structure EntrySpelt (key : RawKey) (cls count : Byte) (actions : List RawAction) (cut withhold : Byte)
    (c : EntryContent) : Prop where
  key : SpellsEntryKey key c.key
  cls : cls = BitVec.ofNat 8 c.cls.val
  count : count = BitVec.ofNat 8 c.actions.length
  capacity : c.actions.length ≤ 4
  actions : actions = c.actions.map fun a =>
    { source := BitVec.ofNat 8 a.source.val, ceiling := ceilingByte a.ceiling
      persistence := persistenceByte a.persistence }
  sources : (c.actions.map Action.source).Nodup
  cut : cut = c.cut.setWidth 8
  withhold : withhold = c.withhold.setWidth 8

/-- A count and a list of bytes name the one or two different degrees of a set (R146, R150). -/
def NamesDegrees (count : Byte) (l : List Byte) (m : DegSet) : Prop :=
  ∃ ds : List Degree, (ds.length = 1 ∨ ds.length = 2) ∧ ds.Nodup ∧ count = BitVec.ofNat 8 ds.length ∧
    l = ds.map (fun d => BitVec.ofNat 8 d.val) ∧ ∀ d : Degree, m.getLsbD d = true ↔ d ∈ ds

/-! ### What the rules call a recomputation, a state change, an entry into AWAIT, a test of confirmation -/

/-- A source whose port shows the grant that its record and the spans give; where that is the grant it has, the port stays
as it stands (R74, R76). -/
def Source.regranted (spans : Vector Span 4) (x : Source) : Source :=
  if grantOf spans x = x.grant then x
  else { x with
    grant := grantOf spans x, enable := (grantOf spans x).isSome, setpoint := (grantOf spans x).getD (-1000) }

/-- The SOURCE reports of the ports whose enable line differs from `s` to `t`, in ascending source number (R77); `after`
where a span state change causes them (R83). -/
def enableReports (after : Bool) (s t : State) : List HandedReport :=
  ((List.finRange 16).filter fun i => (t.source i).enable != (s.source i).enable).map fun i =>
    { report := .source i (t.source i).grant (offReasons t.ctrl.spans (t.source i)) s.now, afterSpan := after }

/-- From `s` to `t` every source `i` has come to the record `f i`, the SOURCE report of every enable line that has changed
is handed on, and nothing else differs (R74, R77). -/
structure SourcesChanged (s : State) (f : SourceNo → Source) (t : State) : Prop where
  sources : ∀ i, t.source i = f i
  frame : t = { s with
    grant := t.grant
    transit := { s.transit with reports := s.transit.reports ++ enableReports false s t } }

/-- From `s` to `t` span `d` makes one state change to the record `r`, by cut key `cut` where a cut order makes it (R83):
the record; the grants of the degree's exposed sources (R74, R76); the SPAN report, then the SOURCE reports of the ports
whose enable line changed, in ascending source number (R77); the forced clear on a dark entry; the capture trigger of a
cut from a light state into DARK or HELD; the claim notice. Nothing else changes. -/
structure SpanChange (s : State) (d : Degree) (r : Span) (cut : Option Key) (t : State) : Prop where
  record : t.span d = r
  others : ∀ e, e ≠ d → t.span e = s.span e
  exposed : ∀ i, (s.source i).exposure.degree = some d → t.source i = (s.source i).regranted t.ctrl.spans
  unexposed : ∀ i, (s.source i).exposure.degree ≠ some d → t.source i = s.source i
  reports : t.transit.reports = s.transit.reports ++
    { report := .span d (s.span d).state r.state r.cause s.now, afterSpan := false } :: enableReports true s t
  forced : t.transit.forced =
    s.transit.forced ++ if r.state = .dark ∨ r.state = .held ∨ r.state = .locked then [d] else []
  triggers : t.transit.triggers = s.transit.triggers ++
    match cut with
    | some k =>
      if ((s.span d).state = .lit ∨ (s.span d).state = .ramp ∨ (s.span d).state = .probe) ∧
          (r.state = .dark ∨ r.state = .held) then [(d, k)] else []
    | none => []
  toClaim : t.transit.toClaim = s.transit.toClaim ++ [.notice (.spanChange d)]
  frame : t = { s with
    ctrl := t.ctrl
    grant := t.grant
    transit := { s.transit with
      reports := t.transit.reports, forced := t.transit.forced, triggers := t.transit.triggers,
      toClaim := t.transit.toClaim } }

/-- The ordinal of the last good far word is known and equals the own (R95). -/
def State.RoleClash (s : State) (d : Degree) : Prop := ∃ w, (s.line d).far = some w ∧ w.ordinal = s.words.own

/-- From `s` to `t` span `d` enters AWAIT with the record `w` (R106): HELD by ROLE_CLASH instead where the ordinals are
equal; on to DARK by BLOCKED where a blocker stands; with PROBE_REQ asserted for 5 s at a trailing end whose auto-restart
switch is on. Where none stands the blocker view stays as it was, by the model's choice (notes/assumptions/33.md). -/
structure AwaitEntered (s : State) (d : Degree) (w : Span) (t : State) : Prop where
  clash : s.RoleClash d →
    SpanChange s d { w with state := .held, cause := .roleClash, interval := none, request := none } none t
  blocked : ¬s.RoleClash d → s.blocked d = true → ∃ m, SpanChange s d w none m ∧
    SpanChange m d
      { w with
        state := .dark, cause := .blocked, asserting := false, interval := some (w.config.restartInterval * 1000),
        request := none, view := .notEmpty, changes := w.changes + 1 } none t
  asserted : ¬s.RoleClash d → s.blocked d = false → (s.limits d).autoRestart = true ∧ w.role = .trailing →
    SpanChange s d { w with asserting := true, request := some 5000 } none t
  silent : ¬s.RoleClash d → s.blocked d = false → ¬((s.limits d).autoRestart = true ∧ w.role = .trailing) →
    SpanChange s d w none t

/-- A probe on span `d` is confirmed (R112): the span is PROBE, DARK_IN and FAR_SHUT of the degree are not seen, and the
far word that stands as the last good one carries LIGHT_SEEN. -/
def State.ProbeConfirmed (s : State) (d : Degree) (far : Option FarWord) : Prop :=
  (s.span d).state = .probe ∧ (s.span d).seenDark = false ∧ (s.span d).seenShut = false ∧
    ∃ w, far = some w ∧ w.lightSeen = true

/-- From `s` to `t` the confirmation of a probe on span `d` is tested (R113): unconfirmed it changes nothing; confirmed it
takes the span to LIT where the ramp depth is 0, else to RAMP at the full ramp depth. -/
structure ConfirmationTested (s : State) (d : Degree) (far : Option FarWord) (t : State) : Prop where
  unconfirmed : ¬s.ProbeConfirmed d far → t = s
  lit : s.ProbeConfirmed d far → (s.span d).config.rampDepth = 0 → SpanChange s d
    { s.span d with
      state := .lit, cause := .confirmed, failed := 0, settle := none, interval := none, probeTimer := none,
      rampTimer := none, request := none, origin := none, changes := (s.span d).changes + 1 } none t
  ramp : s.ProbeConfirmed d far → (s.span d).config.rampDepth ≠ 0 → SpanChange s d
    { s.span d with
      state := .ramp, cause := .confirmed, remaining := (s.span d).config.rampDepth, settle := none, interval := none,
      probeTimer := none, rampTimer := some (s.span d).config.rampInterval, request := none, origin := none,
      changes := (s.span d).changes + 1 } none t

end Sys2Proof.Machine
end

