-- ==== Sys2Proof/Certificates/Slice0/Obligations.lean ====
section
/-! DEFINITION. The statements for the provers: what the rules of spec/ say that each command does, what it leaves as it
stands, and what every step keeps. `s` is the state a command is taken in and `t` the state it answers; an equation
`t = { s with f := t.f, … }` says that nothing but the fields named has changed. -/

open Sys2Proof Sys2Proof.Machine

/-! ### The step, time and the resets -/

/-- A step takes the command at the front of the queue, with the queue's rest (the model's queue, notes/assumptions/3.md). -/
def Obligations.StepTakesTheFrontCommand : Prop :=
  ∀ (c : Instr) (rest : List Instr) (s : State), s.pending = c :: rest → step s = exec c { s with pending := rest }

/-- On an empty queue a step is one millisecond: the timestamp count goes up by one and wraps, and every running timer
has one ms less to run (the model's choice, notes/assumptions/1.md, over 00_scope.md, Units, and R84). -/
def Obligations.AnIdleStepIsOneMillisecond : Prop :=
  ∀ s : State, s.pending = [] → ∃ t, step s = .next t ∧ t.now = s.now + 1 ∧
    (∀ k, t.contact k = { s.contact k with timer := (s.contact k).timer.map (· - 1) }) ∧
    t.cond = { s.cond with
      contacts := t.cond.contacts
      shut := { s.cond.shut with delay := s.cond.shut.delay.map (· - 1) } } ∧
    (∀ d, t.span d = { s.span d with
      settle := (s.span d).settle.map (· - 1)
      interval := (s.span d).interval.map (· - 1)
      probeTimer := (s.span d).probeTimer.map (· - 1)
      rampTimer := (s.span d).rampTimer.map (· - 1)
      request := (s.span d).request.map (· - 1) }) ∧
    (∀ d, t.line d = { s.line d with timer := (s.line d).timer.map (· - 1) }) ∧ t.words.own = s.words.own ∧
    t.claim = { s.claim with standing := s.claim.standing.map fun c => { c with life := c.life - 1 } } ∧
    t.link = { s.link with gap := s.link.gap.map (· - 1) } ∧
    t = { s with now := t.now, cond := t.cond, ctrl := t.ctrl, words := t.words, claim := t.claim, link := t.link }

/-- The values after a power-on reset of the front end, the condition unit, the hazard map, the grant unit and the span
controller, as the tables of R4, R9, R10, R12, R18, R23, R30, R38, R59, R79 and R85 give them. Of the model's own
`lostShut` (notes/assumptions/30.md) nothing is said. -/
def Obligations.ResetValuesOfTheSafetyBlocks : Prop :=
  (∀ c, look State.reset.front.calib c = { dark := 16, gain := 0 }) ∧
  (∀ c, look State.reset.front.last c =
    { present := false, raw := 0, valid := false, saturated := false, value := -6000 }) ∧
  (∀ d, look State.reset.front.heldOut d = none) ∧
  (∀ d, look State.reset.front.ratio d = { r := 0, evaluated := false }) ∧
  (∀ d, look State.reset.cond.dark d = { raised := false, counter := 0 } ∧
    look State.reset.cond.refl d = { raised := false, counter := 0 } ∧
    look State.reset.cond.pump d = { raised := false, counter := 0 }) ∧
  (∀ c, look State.reset.cond.fault c = { raised := false, counter := 0 }) ∧
  (∀ k, (State.reset.contact k).use = .unused ∧ (State.reset.contact k).openLevel = .low ∧
    (State.reset.contact k).degree = none ∧ (State.reset.contact k).debounce = 20 ∧
    (State.reset.contact k).accepted = false) ∧
  State.reset.cond.active = [] ∧
  (∀ e, State.reset.entry e = .free) ∧
  (∀ i, { State.reset.source i with lostShut := false } =
    ({ exposure := .unused, full := 1700, reduced := 1000, probe := 800, hold := .off, restrictions := [],
       overflow := false, lostShut := false, grant := none, enable := false, setpoint := -1000 } : Source)) ∧
  (∀ d, State.reset.span d =
    { state := .held, cause := .start, role := .unknown, failed := 0, honoured := false, asserting := false,
      remaining := 0, settle := none, interval := none, probeTimer := none, rampTimer := none, request := none,
      seenDark := false, seenShut := false, seenMiswire := false, view := .notEmpty, origin := none,
      config :=
        { hazardLimit := 1000, restartInterval := 100, probeTime := 20, probeLimit := 5, settleTime := 500,
          rampDepth := 1500, rampStep := 100, rampInterval := 100 },
      changes := 0 })

/-- The values after a power-on reset of the other blocks, as R35, R49, R124, R134, R144, R145, R155, R156, R165, R168,
R171 and R173 give them. -/
def Obligations.ResetValuesOfTheOtherBlocks : Prop :=
  State.reset.cond.shut.raised = false ∧ State.reset.cond.shut.delay = none ∧ State.reset.map.queue = [] ∧
  (∀ d, look State.reset.cond.touch d = 0) ∧
  State.reset.words.own = 0 ∧
  (∀ d, { State.reset.line d with sent := none } =
    ({ far := none, lost := false, shut := false, lockout := false, miswire := false, timer := some 30, recovery := 0,
       accepted := 0, mismatched := 0, discarded := 0, expected := 0, receiving := none, sent := none } : Line)) ∧
  (∀ n d, look (look State.reset.store.profiles n).limits d =
    { darkLevel := -3000, darkHyst := 200, darkRaise := 8, darkClear := 400, reflectLimit := -1700, reflectHyst := 200,
      reflectRaise := 16, reflectClear := 400, outFloor := -1000, pumpLimit := 0, pumpHyst := 200, pumpRaise := 16,
      pumpClear := 400, lineTimeout := 30, autoRestart := decide (n = 0) }) ∧
  (look State.reset.store.profiles 0).mask = 0b0011#4 ∧ (look State.reset.store.profiles 1).mask = 0b1111#4 ∧
  State.reset.store.active = 0 ∧
  State.reset.claim = { standing := none, lastEnd := .reset } ∧
  (∀ d, look State.reset.capture.rings d = []) ∧ (∀ b, look State.reset.capture.buffers b = .empty) ∧
  State.reset.capture.pointer = 0 ∧
  State.reset.link =
    { phase := .hunt, gap := none, hand := none, waiting := none, replies := [], reports := [.start .powerOn],
      overflow := false, notify := 0b1111#4, attention := true } ∧
  State.reset.now = 0

/-- POWER_ON_RESET: every block at its power-on value, but for the levels at the pins; a contact that reads open starts
its debounce timer (R30), and MASTER_SHUT is raised at once where its input is asserted (R35). These are the model's, and
not the spec's: that the pins stay as they are (notes/assumptions/11.md), that no word has been sent
(notes/assumptions/12.md), that the queue of commands, the port and the free-value count are kept
(notes/assumptions/13.md), that nothing stays in transit (notes/assumptions/15.md), the latest trigger's buffer
(notes/assumptions/20.md), and that no floor order is lost (notes/assumptions/30.md). -/
def Obligations.PowerOnReset : Prop :=
  ∀ s : State, ∃ t, exec .powerOnReset s = .next t ∧
    t.now = 0 ∧ t.front = State.reset.front ∧ t.map.entries = State.reset.map.entries ∧
    t.grant = State.reset.grant ∧ t.ctrl = State.reset.ctrl ∧ t.words = State.reset.words ∧
    t.store = State.reset.store ∧ t.claim = State.reset.claim ∧ t.capture = State.reset.capture ∧
    t.link = State.reset.link ∧ t.cond.dark = State.reset.cond.dark ∧ t.cond.refl = State.reset.cond.refl ∧
    t.cond.pump = State.reset.cond.pump ∧ t.cond.fault = State.reset.cond.fault ∧
    (∀ k, t.contact k =
      { use := .unused, openLevel := .low, degree := none, debounce := 20, accepted := false,
        timer := if (s.contact k).level = .low then some 20 else none, level := (s.contact k).level,
        waiting := none }) ∧
    (s.cond.shut.asserted = false →
      t.cond.shut = { asserted := false, raised := false, delay := none } ∧ t.cond.active = [] ∧
      (∀ d, look t.cond.touch d = 0) ∧ t.map.queue = [] ∧ t.transit = emptyTransit) ∧
    (s.cond.shut.asserted = true →
      t.cond.shut = { asserted := true, raised := true, delay := none } ∧
      t.cond.active =
        [{ key := shutKey, raisedAt := 0, pending := true, clearDue := none, matched := [], withheld := 0 }] ∧
      (∀ d, look t.cond.touch d = 1) ∧ t.map.queue = [.key shutKey] ∧
      t.transit = { emptyTransit with toClaim := [.notice (.condition none)] }) ∧
    t.pending = s.pending ∧ t.port = s.port ∧ t.freeIndex = s.freeIndex

/-- The soft reset, taken when the last byte of the RESET_PART reply has been sent (R176): what each block keeps, and the
reset value of everything else; MASTER_SHUT is raised again, as R19 has it, where its input is asserted (R35). These are
the model's, and not the spec's: that the pins stay as they are (notes/assumptions/11.md), that the word most recently
sent on a line is kept (notes/assumptions/12.md), that the queue of commands, the port and the free-value count are kept
(notes/assumptions/13.md), that nothing stays in transit (notes/assumptions/15.md), the latest trigger's buffer
(notes/assumptions/20.md), and that no floor order is lost (notes/assumptions/30.md). -/
def Obligations.SoftReset : Prop :=
  ∀ (s : State) (h : InHand) (r : Reply) (rest : List Reply),
    s.link.hand = some h → h.frame.kind = 0x24 → h.frame.payload = [] → s.link.replies = r :: rest → r.busy = false →
    ∃ t, exec .replySent s = .next t ∧ t.now = 0 ∧
      t.front = { State.reset.front with calib := s.front.calib } ∧
      t.cond.dark = State.reset.cond.dark ∧ t.cond.refl = State.reset.cond.refl ∧
      t.cond.pump = State.reset.cond.pump ∧ t.cond.fault = State.reset.cond.fault ∧
      (∀ k, t.contact k = { s.contact k with
        accepted := false
        timer := if (s.contact k).level = (s.contact k).openLevel then some (s.contact k).debounce else none
        waiting := none }) ∧
      (s.cond.shut.asserted = false →
        t.cond.shut = { asserted := false, raised := false, delay := none } ∧ t.cond.active = [] ∧
        (∀ d, look t.cond.touch d = 0) ∧ t.map.queue = [] ∧ t.transit = emptyTransit) ∧
      (s.cond.shut.asserted = true →
        t.cond.shut = { asserted := true, raised := true, delay := none } ∧
        t.cond.active =
          [{ key := shutKey, raisedAt := 0, pending := true, clearDue := none, matched := [], withheld := 0 }] ∧
        (∀ d, look t.cond.touch d = 1) ∧ t.map.queue = [.key shutKey] ∧
        t.transit = { emptyTransit with toClaim := [.notice (.condition none)] }) ∧
      t.map.entries = s.map.entries ∧ t.store = s.store ∧
      (∀ i, t.source i = { s.source i with
        hold := .off, restrictions := [], overflow := false, lostShut := false, grant := none, enable := false,
        setpoint := -1000 }) ∧
      (∀ d, t.span d = { State.reset.span d with
        config := (s.span d).config, view := if s.words.own = 0 then .notEmpty else .empty }) ∧
      t.words.own = s.words.own ∧
      (∀ d, t.line d = { State.reset.line d with
        timer := some (s.limits d).lineTimeout, expected := (s.line d).expected, sent := (s.line d).sent }) ∧
      t.claim = { standing := none, lastEnd := .reset } ∧ t.capture = State.reset.capture ∧
      t.link = { State.reset.link with
        reports := [.start .soft], notify := s.link.notify, attention := s.link.notify.getLsbD 1 } ∧
      t.pending = s.pending ∧ t.port = s.port ∧ t.freeIndex = s.freeIndex

/-- Every command completes in every state: none ends in a fault or a refusal, and none touches the queue of commands. -/
def Obligations.EveryCommandCompletes : Prop :=
  ∀ (i : Instr) (s : State), ∃ t, exec i s = .next t ∧ t.pending = s.pending

/-- Configuration changes only by the request that owns it, or by a power-on reset (R4, R30, R38, R59, R85, R132, R134,
R173). -/
def Obligations.ConfigurationChangesOnlyByItsOwnRequest : Prop :=
  ∀ (i : Instr) (s t : State), i ≠ .powerOnReset → exec i s = .next t →
    (t.front.calib = s.front.calib ∨ ∃ c d g, i = .setChannel c d g) ∧
    ((∀ k, (t.contact k).use = (s.contact k).use ∧ (t.contact k).openLevel = (s.contact k).openLevel ∧
        (t.contact k).degree = (s.contact k).degree ∧ (t.contact k).debounce = (s.contact k).debounce) ∨
      ∃ k u l d b, i = .setContact k u l d b) ∧
    (t.map.entries = s.map.entries ∨ (∃ p g k c n as x w, i = .putEntry p g k c n as x w) ∨ (∃ e, i = .parkEntry e) ∨
      (∃ e, i = .unparkEntry e) ∨ ∃ e, i = .freeEntry e) ∧
    ((∀ j, (t.source j).exposure = (s.source j).exposure ∧ (t.source j).full = (s.source j).full ∧
        (t.source j).reduced = (s.source j).reduced ∧ (t.source j).probe = (s.source j).probe) ∨
      ∃ j e d f r p, i = .setSource j e d f r p) ∧
    ((∀ d, (t.span d).config = (s.span d).config) ∨ ∃ d c, i = .setSpan d c) ∧
    ((t.words.own = s.words.own ∧ ∀ d, (t.line d).expected = (s.line d).expected) ∨
      ∃ o a b c d, i = .setSite o a b c d) ∧
    (t.store.profiles = s.store.profiles ∨ ∃ p d l a m, i = .setProfile p d l a m) ∧
    (t.store.active = s.store.active ∨ ∃ p, i = .selectProfile p) ∧
    (t.link.notify = s.link.notify ∨ ∃ m, i = .setNotify m)

/-- A span in LOCKED stays there until an UNLOCK that names it, a power-on reset, or the soft reset at the end of the
RESET_PART reply (R98, R176). -/
def Obligations.LockedIsLeftByUnlockOrReset : Prop :=
  ∀ (i : Instr) (s t : State) (d : Degree), (s.span d).state = .locked → exec i s = .next t →
    (t.span d).state = .locked ∨
    (∃ n l m, i = .unlock n l ∧ NamesDegrees n l m ∧ m.getLsbD d = true) ∨
    i = .powerOnReset ∨
    (i = .replySent ∧ ∃ h r rest, s.link.hand = some h ∧ h.frame.kind = 0x24 ∧ h.frame.payload = [] ∧
      s.link.replies = r :: rest ∧ r.busy = false)

/-- A span enters LIT only by the end of its ramp (R118), or by a confirmed probe with ramp depth 0 (R113): DARK_IN and
FAR_SHUT of the degree are not seen, the far word that is read as the last good one carries LIGHT_SEEN, and the event is
one that R112 has test the confirmation: an accepted far word at the span controller, which may also have started the probe
in AWAIT (R108 step 5), or the clear of DARK_IN or FAR_SHUT of the degree. That the first reads the word handed on, which is
the oldest in transit for the degree, and the clear the word that stands on the line is the model's reading
(notes/assumptions/21.md). -/
def Obligations.LitIsEnteredByRampEndOrConfirmation : Prop :=
  ∀ (i : Instr) (s t : State) (d : Degree), (s.span d).state ≠ .lit → exec i s = .next t → (t.span d).state = .lit →
    ((s.span d).state = .ramp ∧ i = .rampStepExpiry d ∧ (s.span d).rampTimer = some 0 ∧
      (s.span d).remaining ≤ (s.span d).config.rampStep) ∨
    ((s.span d).config.rampDepth = 0 ∧ (t.span d).seenDark = false ∧ (t.span d).seenShut = false ∧
      ∃ w : FarWord, w.lightSeen = true ∧
        ((i = .farWordAtSpanController d ∧ oldest s.transit.fromLine d = some (.farWord w) ∧
            ((s.span d).state = .probe ∨ (s.span d).state = .await)) ∨
          (i = .clearAtSpanController ∧ (s.line d).far = some w ∧ (s.span d).state = .probe ∧
            ∃ k held rest, s.transit.toSpan = .clear k held :: rest ∧ (k.kind = .darkIn ∨ k.kind = .farShut) ∧
              k.degree = some d)))

/-! ### Readings and qualifiers -/

/-- The conversion of a valid reading (R6): at or below the dark offset −6000; above it the integer nearest to
1000 × log10(n) plus the gain offset, clamped. That v is nearest is said without a logarithm: 10 to the 2v is at most
10 × n to the 2000, which is below 10 to the 2v + 2. -/
def Obligations.ConversionOfAValidReading : Prop :=
  ∀ (k : Calibration) (code : BitVec 12),
    (code.toNat ≤ k.dark → convert k code = -6000) ∧
    (k.dark < code.toNat → ∃ v : Nat,
      10 ^ (2 * v) ≤ 10 * (code.toNat - k.dark) ^ 2000 ∧ 10 * (code.toNat - k.dark) ^ 2000 < 10 ^ (2 * v + 2) ∧
      convert k code = max (-6000) (min 3000 ((v : Int) + k.gain)))

/-- MONITOR_READING: the last-reading record, the held OUT value, the ratio record and the sample that a reading leaves
(R3, R8, R9, R10, R12, R13, R14), and what it leaves as it stands. -/
def Obligations.AReadingIsRecorded : Prop :=
  ∀ (c : ChannelNo) (code : BitVec 12) (valid : Bool) (s : State), ∃ t,
    exec (.monitorReading c code valid) s = .next t ∧
    look t.front.last c =
      { present := true, raw := code, valid := valid, saturated := valid && code == 4095#12,
        value := if valid then convert (look s.front.calib c) code else
          match chanRole c with
          | .inn => -6000
          | .out => (look s.front.heldOut (chanDegree c)).getD (-6000)
          | .refl => 3000
          | .prefl => 3000 } ∧
    (∀ e, e ≠ c → look t.front.last e = look s.front.last e) ∧
    (∀ d, look t.front.heldOut d =
      if chanRole c = .out ∧ chanDegree c = d ∧ valid = true then some (convert (look s.front.calib c) code)
      else look s.front.heldOut d) ∧
    (∀ d, look t.front.ratio d =
      if chanRole c = .refl ∧ chanDegree c = d then
        { r := (look t.front.last c).value - (look s.front.last (channel d 1)).value
          evaluated := decide ((s.limits d).outFloor ≤ (look s.front.last (channel d 1)).value) }
      else look s.front.ratio d) ∧
    t.front.calib = s.front.calib ∧
    t.transit.samples =
      (if chanRole c = .inn then
        s.transit.samples ++ [(chanDegree c,
          { pIn := (look t.front.last c).value
            pOut := (look s.front.last (channel (chanDegree c) 1)).value
            dark := (look t.cond.dark (chanDegree c)).raised
            refl := (look t.cond.refl (chanDegree c)).raised })]
      else s.transit.samples) ∧
    t = { s with
      front := t.front
      cond := { s.cond with
        dark := t.cond.dark, refl := t.cond.refl, pump := t.cond.pump, fault := t.cond.fault, active := t.cond.active
        touch := t.cond.touch }
      map := { s.map with queue := t.map.queue }
      transit := t.transit }

/-- What a qualifier does with an input on each side, in each state (R23), and which qualifiers a reading reaches, with
the side it lies on and the two counts (R24 to R28). Where a reading feeds two qualifiers, both take it (R11). -/
def Obligations.QualifiersTakeReadings : Prop :=
  (∀ (n raiseCount clearCount : Nat) (b : Bool),
    Qualifier.take { raised := b, counter := n } raiseCount clearCount .hold = ({ raised := b, counter := n }, none) ∧
    Qualifier.take { raised := b, counter := n } raiseCount clearCount .band = ({ raised := b, counter := 0 }, none) ∧
    Qualifier.take { raised := false, counter := n } raiseCount clearCount .safe =
      ({ raised := false, counter := 0 }, none) ∧
    Qualifier.take { raised := true, counter := n } raiseCount clearCount .hazard =
      ({ raised := true, counter := 0 }, none) ∧
    Qualifier.take { raised := false, counter := n } raiseCount clearCount .hazard =
      (if raiseCount ≤ n + 1 then ({ raised := true, counter := 0 }, some true)
        else ({ raised := false, counter := n + 1 }, none)) ∧
    Qualifier.take { raised := true, counter := n } raiseCount clearCount .safe =
      (if clearCount ≤ n + 1 then ({ raised := false, counter := 0 }, some false)
        else ({ raised := true, counter := n + 1 }, none))) ∧
  ∀ (c : ChannelNo) (code : BitVec 12) (valid : Bool) (s : State), ∃ t, exec (.monitorReading c code valid) s = .next t ∧
    (∀ e, look t.cond.fault e =
      if e = c then ((look s.cond.fault c).take 4 400 (if valid = true ∧ code ≠ 4095#12 then .safe else .hazard)).1
      else look s.cond.fault e) ∧
    (∀ d, look t.cond.dark d =
      if chanRole c = .inn ∧ chanDegree c = d then
        ((look s.cond.dark d).take (s.limits d).darkRaise (s.limits d).darkClear
          (if (look t.front.last c).value < (s.limits d).darkLevel then .hazard
            else if (s.limits d).darkLevel + (s.limits d).darkHyst ≤ (look t.front.last c).value then .safe
            else .band)).1
      else look s.cond.dark d) ∧
    (∀ d, look t.cond.refl d =
      if chanRole c = .refl ∧ chanDegree c = d then
        ((look s.cond.refl d).take (s.limits d).reflectRaise (s.limits d).reflectClear
          (if (look t.front.ratio d).evaluated = false then .hold
            else if (s.limits d).reflectLimit < (look t.front.ratio d).r then .hazard
            else if (look t.front.ratio d).r ≤ (s.limits d).reflectLimit - (s.limits d).reflectHyst then .safe
            else .band)).1
      else look s.cond.refl d) ∧
    (∀ d, look t.cond.pump d =
      if chanRole c = .prefl ∧ chanDegree c = d then
        ((look s.cond.pump d).take (s.limits d).pumpRaise (s.limits d).pumpClear
          (if (s.limits d).pumpLimit < (look t.front.last c).value then .hazard
            else if (look t.front.last c).value ≤ (s.limits d).pumpLimit - (s.limits d).pumpHyst then .safe
            else .band)).1
      else look s.cond.pump d)

/-- What the qualifiers that take a reading decide (QualifiersTakeReadings) is a raise, or a clear with cause NORMAL, of
their conditions (R23), for MONITOR_FAULT of the channel first (the model's order, notes/assumptions/14.md) and then for
DARK_IN, REFLECT or PUMP_REFLECT of its degree; what a raise and a clear do is RaisesAndClearsAtTheConditionUnit's. And the
reading that completes a run below dark_level, said whole: it raises DARK_IN(d), a pending record at the newest end, the
key to the hazard map, the touch number of the degree and the notice to the claim unit (R19, R25, R145, R147). -/
def Obligations.WhatReadingsDecideIsTaken : Prop :=
  (∀ (c : ChannelNo) (code : BitVec 12) (valid : Bool) (s : State),
    let decided (u : State) (k : Key) (x : Option Bool) : State :=
      match x with
      | some true => u.raise k
      | some false => u.clearDue k .normal
      | none => u
    let d := chanDegree c
    let l := s.limits d
    ∃ t u v : State, exec (.monitorReading c code valid) s = .next t ∧
      u = decided s { kind := .monitorFault, degree := some d, detail := some (.channel c) }
        ((look s.cond.fault c).take 4 400 (if valid = true ∧ code ≠ 4095#12 then .safe else .hazard)).2 ∧
      v = (match chanRole c with
        | .inn => decided u { kind := .darkIn, degree := some d, detail := none }
          ((look s.cond.dark d).take l.darkRaise l.darkClear
            (if (look t.front.last c).value < l.darkLevel then .hazard
              else if l.darkLevel + l.darkHyst ≤ (look t.front.last c).value then .safe
              else .band)).2
        | .out => u
        | .refl => decided u { kind := .reflect, degree := some d, detail := none }
          ((look s.cond.refl d).take l.reflectRaise l.reflectClear
            (if (look t.front.ratio d).evaluated = false then .hold
              else if l.reflectLimit < (look t.front.ratio d).r then .hazard
              else if (look t.front.ratio d).r ≤ l.reflectLimit - l.reflectHyst then .safe
              else .band)).2
        | .prefl => decided u { kind := .pumpReflect, degree := some d, detail := none }
          ((look s.cond.pump d).take l.pumpRaise l.pumpClear
            (if l.pumpLimit < (look t.front.last c).value then .hazard
              else if (look t.front.last c).value ≤ l.pumpLimit - l.pumpHyst then .safe
              else .band)).2) ∧
      t = { v with
        front := t.front
        cond := { v.cond with dark := t.cond.dark, refl := t.cond.refl, pump := t.cond.pump, fault := t.cond.fault }
        transit := { v.transit with samples := t.transit.samples } }) ∧
  ∀ (d : Degree) (code : BitVec 12) (s : State), code ≠ 4095#12 →
    (look s.cond.fault (channel d 0)).raised = false →
    convert (look s.front.calib (channel d 0)) code < (s.limits d).darkLevel →
    (look s.cond.dark d).raised = false → (s.limits d).darkRaise ≤ (look s.cond.dark d).counter + 1 →
    (∀ r ∈ s.cond.active, r.key ≠ degreeKey .darkIn d) →
    ∃ t, exec (.monitorReading (channel d 0) code true) s = .next t ∧
      t.cond.active = s.cond.active ++
        [{ key := degreeKey .darkIn d, raisedAt := s.now, pending := true, clearDue := none, matched := [],
           withheld := 0 }] ∧
      t.map.queue = s.map.queue ++ [.key (degreeKey .darkIn d)] ∧
      (∀ e, look t.cond.touch e = if e = d then look s.cond.touch e + 1 else look s.cond.touch e) ∧
      t.transit.toClaim = s.transit.toClaim ++ [.notice (.condition (some d))] ∧
      look t.cond.dark d = { raised := true, counter := 0 } ∧
      look t.cond.fault (channel d 0) = { raised := false, counter := 0 } ∧
      t.transit.reports = s.transit.reports

/-! ### Conditions -/

/-- SNAPSHOT_WRITE (R20, R36): the snapshot into the record, its pending mark cleared, the raise report, the withheld
degrees to the span controller; a clear that had fallen due is taken at once after it (R22, R21), after those
re-examinations have been handed on (the model's reading, notes/assumptions/28.md), and directly after it the raise of a
contact that waited for it (R22). REWRITTEN_SNAPSHOT_WRITE (R143): the three fields replaced with the marks left as they
are, the old and the new withheld degrees to the span controller, no report; without its record it is discarded, and so it
is where a record of its key stands pending, which is a later raise (the model's reading, notes/assumptions/17.md). That a
snapshot's degrees are handed in ascending degree is the model's choice (notes/assumptions/34.md). -/
def Obligations.SnapshotsAreWritten : Prop :=
  (∀ (k : Key) (m : List EntryNo) (w : DegSet) (rest : List SnapshotEvent) (r : CondRecord) (s : State),
    s.transit.snapshots = .lookup k m w :: rest → s.record? k = some r →
    ∃ t u : State, exec .snapshotWrite s = .next t ∧
      (r.clearDue = none → t = u ∧
        u.cond = { s.cond with active := s.cond.active.map fun x =>
          if x.key = k then { r with pending := false, matched := m, withheld := w } else x } ∧
        u.transit = { s.transit with
          snapshots := rest
          reports := s.transit.reports ++ [{ report := .raised k r.raisedAt m.length m.head?, afterSpan := false }]
          toSpan := s.transit.toSpan ++ (DegSet.toList w).map .reexamine }) ∧
      (∀ c, r.clearDue = some c → t = u.takeWaitingRaise k ∧
        u.cond.active = s.cond.active.filter (fun x => x.key ≠ k) ∧
        (∀ d, look u.cond.touch d =
          if k.degree = none ∨ k.degree = some d then look s.cond.touch d + 1 else look s.cond.touch d) ∧
        u.transit = { s.transit with
          snapshots := rest
          reports := s.transit.reports ++ [{ report := .raised k r.raisedAt m.length m.head?, afterSpan := false },
            { report := .cleared k s.now c, afterSpan := false }]
          toGrant := s.transit.toGrant ++ [.clear k]
          toSpan := s.transit.toSpan ++ (DegSet.toList w).map .reexamine ++ [.clear k w]
          toClaim := s.transit.toClaim ++ [.notice (.condition k.degree)] } ∧
        u.cond = { s.cond with active := u.cond.active, touch := u.cond.touch }) ∧
      u = { s with cond := u.cond, transit := u.transit } ∧
      (∀ n x, k.detail = some (.contact n) → (u.contact n).waiting = some x →
        u.takeWaitingRaise k = (u.setContact n { u.contact n with waiting := none }).raise x) ∧
      ((∀ n, k.detail = some (.contact n) → (u.contact n).waiting = none) → u.takeWaitingRaise k = u)) ∧
  (∀ (k : Key) (m : List EntryNo) (w : DegSet) (rest : List SnapshotEvent) (s : State),
    s.transit.snapshots = .rewritten k m w :: rest →
    (∀ r, s.record? k = some r → r.pending = false →
      exec .rewrittenSnapshotWrite s = .next { s with
        cond := { s.cond with active := s.cond.active.map fun x =>
          if x.key = k then { x with matched := m, withheld := w } else x }
        transit := { s.transit with
          snapshots := rest
          toSpan := s.transit.toSpan ++ (DegSet.toList (r.withheld ||| w)).map .reexamine } }) ∧
    (s.record? k = none ∨ (∃ r, s.record? k = some r ∧ r.pending = true) →
      exec .rewrittenSnapshotWrite s = .next { s with transit := { s.transit with snapshots := rest } }))

/-- FORCED_CLEAR (R29): the REFLECT(d) qualifier CLEAR with counter 0; where it was RAISED the clear of its record, taken
with cause SPAN_DARK or deferred with it while the record is pending (R21, R22). -/
def Obligations.AForcedClearEndsReflect : Prop :=
  ∀ (d : Degree) (s : State), d ∈ s.transit.forced → ∃ t, exec (.forcedClear d) s = .next t ∧
    look t.cond.refl d = { raised := false, counter := 0 } ∧ (∀ e, e ≠ d → look t.cond.refl e = look s.cond.refl e) ∧
    ((look s.cond.refl d).raised = false ∨ s.record? (degreeKey .reflect d) = none →
      t = { s with
        cond := { s.cond with refl := t.cond.refl }
        transit := { s.transit with forced := s.transit.forced.erase d } }) ∧
    (∀ r, (look s.cond.refl d).raised = true → s.record? (degreeKey .reflect d) = some r →
      (r.pending = true →
        t = { s with
          cond := { s.cond with
            refl := t.cond.refl
            active := s.cond.active.map fun x =>
              if x.key = degreeKey .reflect d then { x with clearDue := some .spanDark } else x }
          transit := { s.transit with forced := s.transit.forced.erase d } }) ∧
      (r.pending = false →
        t = { s with
          cond := { s.cond with
            refl := t.cond.refl
            active := s.cond.active.filter fun x => x.key ≠ degreeKey .reflect d
            touch := t.cond.touch }
          transit := { s.transit with
            forced := s.transit.forced.erase d
            reports := s.transit.reports ++
              [{ report := .cleared (degreeKey .reflect d) s.now .spanDark, afterSpan := false }]
            toGrant := s.transit.toGrant ++ [.clear (degreeKey .reflect d)]
            toSpan := s.transit.toSpan ++ [.clear (degreeKey .reflect d) r.withheld]
            toClaim := s.transit.toClaim ++ [.notice (.condition (some d))] } } ∧
        ∀ e, look t.cond.touch e = if e = d then look s.cond.touch e + 1 else look s.cond.touch e))

/-- COUNTER_ZEROING (R140): the counters of the twenty-eight qualifiers at 0, every state kept, nothing else touched. -/
def Obligations.ZeroingKeepsEveryQualifierState : Prop :=
  ∀ (n : Nat) (s : State), s.transit.zeroings = n + 1 → ∃ t, exec .counterZeroing s = .next t ∧
    (∀ d, look t.cond.dark d = { look s.cond.dark d with counter := 0 } ∧
      look t.cond.refl d = { look s.cond.refl d with counter := 0 } ∧
      look t.cond.pump d = { look s.cond.pump d with counter := 0 }) ∧
    (∀ c, look t.cond.fault c = { look s.cond.fault c with counter := 0 }) ∧
    t = { s with
      cond := { s.cond with dark := t.cond.dark, refl := t.cond.refl, pump := t.cond.pump, fault := t.cond.fault }
      transit := { s.transit with zeroings := n } }

/-- CONTACT_LEVEL_CHANGE (R31): a running debounce timer is stopped; a stopped one is started where the input now reads
differently from the accepted state. That a change of level is a change to the other of two levels is the model's reading
(notes/assumptions/25.md). DEBOUNCE_EXPIRY (R32, R22): the present reading becomes the accepted state. OPEN raises the
contact's condition, or lets the raise wait where another record of the contact stands pending with its clear due under a
different key; CLOSED cancels a raise that waits, or else clears the contact's record with cause NORMAL unless its clear
has fallen due already; an UNUSED contact raises nothing. That the contact's raised condition is its record with no clear
due, under the key it was raised with and whatever the contact's present use, or the raise that waits, is the model's
reading (notes/assumptions/29.md). What a raise and a clear do is RaisesAndClearsAtTheConditionUnit's. A timer that is
stopped or has time left does not expire (notes/assumptions/2.md). -/
def Obligations.AContactIsDebounced : Prop :=
  ∀ (k : ContactNo) (s : State),
    (∃ t, exec (.contactLevelChange k) s = .next t ∧ (t.contact k).level ≠ (s.contact k).level ∧
      t.contact k = { s.contact k with
        level := (t.contact k).level
        timer := if (s.contact k).timer.isSome then none
          else if (decide ((t.contact k).level = (s.contact k).openLevel)) ≠ (s.contact k).accepted then
            some (s.contact k).debounce
          else none } ∧
      (∀ n, n ≠ k → t.contact n = s.contact n) ∧ t = { s with cond := { s.cond with contacts := t.cond.contacts } }) ∧
    ((s.contact k).timer ≠ some 0 → exec (.debounceExpiry k) s = .next s) ∧
    ((s.contact k).timer = some 0 → ∃ t u : State, exec (.debounceExpiry k) s = .next t ∧
      u = s.setContact k { s.contact k with
        timer := none, accepted := decide ((s.contact k).level = (s.contact k).openLevel) } ∧
      ((s.contact k).level = (s.contact k).openLevel →
        ((s.contact k).use = .unused → t = u) ∧
        (∀ key : Key, (s.contact k).use ≠ .unused →
          key = { kind := if (s.contact k).use = .guard then .guardOpen else .keyOpen
                  degree := (s.contact k).degree, detail := some (.contact k) } →
          ((∃ r, s.contactRecord? k = some r ∧ r.pending = true ∧ r.clearDue ≠ none ∧ r.key ≠ key) →
            t = u.setContact k { u.contact k with waiting := some key }) ∧
          ((∀ r, s.contactRecord? k = some r → r.pending = false ∨ r.clearDue = none ∨ r.key = key) →
            t = u.raise key))) ∧
      ((s.contact k).level ≠ (s.contact k).openLevel →
        (∀ x, (s.contact k).waiting = some x → t = u.setContact k { u.contact k with waiting := none }) ∧
        ((s.contact k).waiting = none →
          (∀ r, s.contactRecord? k = some r → r.clearDue = none → t = u.clearDue r.key .normal) ∧
          ((∀ r, s.contactRecord? k = some r → r.clearDue ≠ none) → t = u)))) ∧
    (∀ r, s.contactRecord? k = some r ↔ ∃ a b, s.cond.active = a ++ r :: b ∧ r.key.detail = some (.contact k) ∧
      ∀ x ∈ a, x.key.detail ≠ some (.contact k))

/-- The master-shut input (R35): assertion raises MASTER_SHUT at once or stops a running clear delay; de-assertion starts
the 20 ms clear delay while MASTER_SHUT is raised; its expiry clears MASTER_SHUT with cause NORMAL, at once or, while its
record is pending, deferred (R22). An assertion while the input is asserted, and a de-assertion while it is not, act by
whether MASTER_SHUT is raised too, so that a repeated de-assertion starts the 20 ms anew: that is the model's choice
(notes/assumptions/25.md). A delay that is stopped or has time left does not expire (notes/assumptions/2.md). -/
def Obligations.TheMasterShutInput : Prop :=
  ∀ s : State,
    (s.cond.shut.raised = true →
      exec .masterShutAssertion s = .next { s with cond := { s.cond with
        shut := { asserted := true, raised := true, delay := none } } }) ∧
    (s.cond.shut.raised = false → s.record? shutKey = none → ∃ t, exec .masterShutAssertion s = .next t ∧
      t.cond.shut = { asserted := true, raised := true, delay := none } ∧
      t.cond.active = s.cond.active ++
        [{ key := shutKey, raisedAt := s.now, pending := true, clearDue := none, matched := [], withheld := 0 }] ∧
      t.map.queue = s.map.queue ++ [.key shutKey] ∧ (∀ d, look t.cond.touch d = look s.cond.touch d + 1) ∧
      t.transit = { s.transit with toClaim := s.transit.toClaim ++ [.notice (.condition none)] } ∧
      t = { s with
        cond := { s.cond with shut := t.cond.shut, active := t.cond.active, touch := t.cond.touch }
        map := { s.map with queue := t.map.queue }
        transit := t.transit }) ∧
    exec .masterShutDeassertion s = .next { s with cond := { s.cond with
      shut := { s.cond.shut with
        asserted := false, delay := if s.cond.shut.raised then some 20 else s.cond.shut.delay } } } ∧
    (s.cond.shut.delay ≠ some 0 → exec .clearDelayExpiry s = .next s) ∧
    (∀ r, s.cond.shut.delay = some 0 → s.record? shutKey = some r → r.pending = true →
      exec .clearDelayExpiry s = .next { s with cond := { s.cond with
        shut := { s.cond.shut with raised := false, delay := none }
        active := s.cond.active.map fun x => if x.key = shutKey then { x with clearDue := some .normal } else x } }) ∧
    (∀ r, s.cond.shut.raised = false → s.record? shutKey = some r → r.pending = true → r.clearDue ≠ none →
      exec .masterShutAssertion s = .next { s with cond := { s.cond with
        shut := { asserted := true, raised := true, delay := none }
        active := s.cond.active.map fun x => if x.key = shutKey then { x with clearDue := none } else x } }) ∧
    (∀ r, s.cond.shut.delay = some 0 → s.record? shutKey = some r → r.pending = false →
      ∃ t, exec .clearDelayExpiry s = .next t ∧
        t.cond.shut = { s.cond.shut with raised := false, delay := none } ∧
        t.cond.active = s.cond.active.filter (fun x => x.key ≠ shutKey) ∧
        t.transit = { s.transit with
          reports := s.transit.reports ++ [{ report := .cleared shutKey s.now .normal, afterSpan := false }]
          toGrant := s.transit.toGrant ++ [.clear shutKey]
          toSpan := s.transit.toSpan ++ [.clear shutKey r.withheld]
          toClaim := s.transit.toClaim ++ [.notice (.condition none)] } ∧
        (∀ d, look t.cond.touch d = look s.cond.touch d + 1) ∧
        t = { s with
          cond := { s.cond with shut := t.cond.shut, active := t.cond.active, touch := t.cond.touch }
          transit := t.transit })

/-- SET_CONTACT (R33): refused as a whole where a field is out of range; else the four values stored with the debounce
time clamped, the accepted state CLOSED, the debounce timer restarted where the input now reads open, and before that a
raise of the contact that waits cancelled (R22), or else a raised condition of the contact cleared with cause RECONFIGURED
unless its clear has fallen due already. That a record whose clear has fallen due is no raised condition of the contact,
and is left as it stands, is the model's reading (notes/assumptions/29.md). What a clear does is
RaisesAndClearsAtTheConditionUnit's. -/
def Obligations.AContactIsReconfigured : Prop :=
  ∀ (k u l d b : Byte) (s : State),
    (8 ≤ k.toNat ∨ 3 ≤ u.toNat ∨ 2 ≤ l.toNat ∨ (4 ≤ d.toNat ∧ d ≠ 0xFF) →
      exec (.setContact k u l d b) s = .next (s.answer (.setContact k u l d b) [0x12])) ∧
    (∀ (kk : ContactNo) (uu : ContactUse) (ll : Level) (dd : Option Degree), k = BitVec.ofNat 8 kk.val →
      u = (match uu with
        | .guard => 0
        | .key => 1
        | .unused => 2) →
      l = (match ll with
        | .low => 0
        | .high => 1) →
      d = (dd.map fun e => BitVec.ofNat 8 e.val).getD 0xFF →
      ∃ t v : State,
        exec (.setContact k u l d b) s = .next (t.answer (.setContact k u l d b)
          [if 1 ≤ b.toNat ∧ b.toNat ≤ 64 then 0x00 else 0x01]) ∧
        t = v.setContact kk
          { use := uu, openLevel := ll, degree := dd, debounce := max 1 (min 64 b.toNat), accepted := false,
            timer := if (s.contact kk).level = ll then some (max 1 (min 64 b.toNat)) else none,
            level := (s.contact kk).level, waiting := none } ∧
        ((s.contact kk).waiting ≠ none → v = s) ∧
        ((s.contact kk).waiting = none →
          (∀ r, s.contactRecord? kk = some r → r.clearDue = none → v = s.clearDue r.key .reconfigured) ∧
          ((∀ r, s.contactRecord? kk = some r → r.clearDue ≠ none) → v = s)) ∧
        (∀ r, (s.contact kk).waiting = none → s.contactRecord? kk = some r → r.pending = false → r.clearDue = none →
          t.cond.active = s.cond.active.filter (fun x => x.key ≠ r.key) ∧
          t.transit = { s.transit with
            reports := s.transit.reports ++ [{ report := .cleared r.key s.now .reconfigured, afterSpan := false }]
            toGrant := s.transit.toGrant ++ [.clear r.key]
            toSpan := s.transit.toSpan ++ [.clear r.key r.withheld]
            toClaim := s.transit.toClaim ++ [.notice (.condition r.key.degree)] }))

/-! ### Requests as a whole -/

/-- Every request but RESET_PART forms one reply in the event that takes it: under the tag of the request in hand, at the
end of the reply list (R169, R170), or, for a request command that is in no slot, at the port (the model's,
notes/assumptions/7.md). -/
def Obligations.EveryRequestFormsOneReply : Prop :=
  ∀ (i : Instr) (s : State), requestKind i ≠ none → i ≠ .resetPart → ∃ t body, exec i s = .next t ∧ body ≠ [] ∧
    (∀ h, s.link.hand = some h → s.awaits = some i →
      t.link.hand = some { h with answered := true } ∧
      t.link.replies = s.link.replies ++ [{ busy := false, bytes := replyBytes h.frame body }] ∧ t.port = s.port) ∧
    (s.awaits ≠ some i → t.link.hand = s.link.hand ∧ t.link.replies = s.link.replies ∧ t.port = some body) ∧
    t.link.waiting = s.link.waiting ∧ t.link.phase = s.link.phase ∧ t.link.gap = s.link.gap

/-- What the queries of readings, contacts, conditions, entries and keys answer, with nothing else changed (R16, R34, R37,
R47, R58, laid out by R184 and R187): every byte of their replies, and of the key that a reply carries. TEST_KEY takes the
full key of one instance (R40, R58; SpellsTestedKey). The requests they refuse are
FieldsAreCodedAndOutOfRangeIsRefused's. -/
def Obligations.QueriesOfReadingsConditionsAndTheMap : Prop :=
  (∀ k : Key, keyBytes k = [kindCode k.kind, (k.degree.map fun d => BitVec.ofNat 8 d.val).getD 0xFF,
    match k.detail with
    | some (.channel c) => BitVec.ofNat 8 c.val
    | some (.contact n) => BitVec.ofNat 8 n.val
    | none => 0xFF]) ∧
  ∀ (s : State) (a b : Byte),
    (1 ≤ b.toNat → a.toNat + b.toNat ≤ 16 → exec (.getReading a b) s = .next (s.answer (.getReading a b)
      ([0x00, a, b] ++ ((List.finRange 16).filter fun c => decide (a.toNat ≤ c.val ∧ c.val < a.toNat + b.toNat)).flatMap
        fun c => [BitVec.ofNat 8 ((look s.front.last c).present.toNat + 2 * (look s.front.last c).valid.toNat +
            4 * (look s.front.last c).saturated.toNat + if chanRole c = .refl ∧
              (look s.front.ratio (chanDegree c)).evaluated = true then 8 else 0)] ++
          halfBytes ((look s.front.last c).raw.setWidth 16) ++ halfBytes (BitVec.ofInt 16 (look s.front.last c).value) ++
          if chanRole c = .refl then halfBytes (BitVec.ofInt 16 (look s.front.ratio (chanDegree c)).r) else []))) ∧
    exec .getContact s = .next (s.answer .getContact
      ([0x00] ++ (List.finRange 8).flatMap (fun k =>
        [match (s.contact k).use with
          | .guard => 0
          | .key => 1
          | .unused => 2,
          if (s.contact k).openLevel = .high then 1 else 0,
          ((s.contact k).degree.map fun d => BitVec.ofNat 8 d.val).getD 0xFF, BitVec.ofNat 8 (s.contact k).debounce,
          if (s.contact k).level = (s.contact k).openLevel then 1 else 0, if (s.contact k).accepted then 1 else 0] ++
        timerBytes (s.contact k).timer) ++
        [if s.cond.shut.asserted then 1 else 0, if s.cond.shut.raised then 1 else 0] ++
        timerBytes s.cond.shut.delay)) ∧
    (let record (r : CondRecord) : List Byte := keyBytes r.key ++ wordBytes r.raisedAt ++
        [if r.pending then 1 else 0, if r.clearDue = none then 0 else 1, BitVec.ofNat 8 r.matched.length,
          (r.matched.head?.map fun e => BitVec.ofNat 8 e.val).getD 0xFF, r.withheld.setWidth 8]
      let n := BitVec.ofNat 8 s.cond.active.length
      a.toNat ≤ 52 →
        (b = 0 → exec (.getConditions a b) s = .next (s.answer (.getConditions a b)
          ([0x00, n, BitVec.ofNat 8 (min 8 (s.cond.active.length - a.toNat))] ++
            ((s.cond.active.drop a.toNat).take 8).flatMap record))) ∧
        (b = 1 → (∀ r, s.cond.active[a.toNat]? = some r →
            exec (.getConditions a b) s = .next (s.answer (.getConditions a b)
              ([0x00, n, 1] ++ record r ++ r.matched.map fun e => BitVec.ofNat 8 e.val))) ∧
          (s.cond.active.length ≤ a.toNat →
            exec (.getConditions a b) s = .next (s.answer (.getConditions a b) [0x00, n, 0])))) ∧
    (let content (c : EntryContent) : List Byte := keyBytes c.key ++
        [BitVec.ofNat 8 c.cls.val, BitVec.ofNat 8 c.actions.length] ++
        ((c.actions.take 4).flatMap fun x => [BitVec.ofNat 8 x.source.val, ceilingByte x.ceiling,
          persistenceByte x.persistence]) ++
        (List.replicate (4 - c.actions.length) [0xFF, 0x00, 0x00]).flatten ++ [c.cut.setWidth 8, c.withhold.setWidth 8]
      ∀ e : EntryNo, a = BitVec.ofNat 8 e.val →
        (s.entry e = .free → exec (.getEntry a) s = .next (s.answer (.getEntry a)
          ([0x00, 0x00, 0xFF, 0xFF, 0xFF] ++ List.replicate 16 0x00))) ∧
        (∀ c, s.entry e = .live c →
          exec (.getEntry a) s = .next (s.answer (.getEntry a) ([0x00, 0x01] ++ content c))) ∧
        (∀ c, s.entry e = .parked c →
          exec (.getEntry a) s = .next (s.answer (.getEntry a) ([0x00, 0x02] ++ content c)))) ∧
    (∀ (key : RawKey) (k : Key), SpellsTestedKey key k → 1 ≤ a.toNat → a.toNat ≤ 3 → b.toNat ≤ 1 →
      ∃ m : List EntryNo, m.Pairwise (· < ·) ∧
        (∀ e, e ∈ m ↔ ∃ c, ((s.entry e = .live c ∧ (a = 1 ∨ a = 3)) ∨ (s.entry e = .parked c ∧ (a = 2 ∨ a = 3))) ∧
          (b = 1 ∨ s.profile.mask.getLsbD c.cls = true) ∧ c.key.kind = k.kind ∧
          (c.key.degree = none ∨ c.key.degree = k.degree) ∧ (c.key.detail = none ∨ c.key.detail = k.detail)) ∧
        exec (.testKey key a b) s = .next (s.answer (.testKey key a b)
          ([0x00, BitVec.ofNat 8 m.length] ++ (m.take 16).map (fun e => BitVec.ofNat 8 e.val) ++
            List.replicate (16 - m.length) 0xFF)))

/-- What the queries of sources, spans, lines and profiles answer, with nothing else changed (R78, R102, R121, R133, R138,
laid out by R185 and R187), and the span snapshot that GET_SPAN and CLAIM share (R185). Before any word has been sent on a
degree the last two bytes of a GET_LINE reply are free: the reply completes whatever they are, and uses two fresh ones
(notes/assumptions/12.md). The requests they refuse are FieldsAreCodedAndOutOfRangeIsRefused's. -/
def Obligations.QueriesOfSourcesSpansLinesAndProfiles : Prop :=
  ∀ (s : State) (a b : Byte),
    let power (v : Option Int) : List Byte := (v.map fun x => halfBytes (BitVec.ofInt 16 x)).getD [0x80, 0x00]
    let int (v : Int) : List Byte := halfBytes (BitVec.ofInt 16 v)
    let nat (n : Nat) : List Byte := halfBytes (BitVec.ofNat 16 n)
    let flag (x : Bool) : Byte := if x then 1 else 0
    let farWord (w : Option FarWord) : List Byte :=
      (w.map fun x => [BitVec.ofNat 8 x.degree.val, x.code.setWidth 8, x.flags.setWidth 8]).getD [0xFF, 0xFF, 0xFF]
    let farOrdinal (w : Option FarWord) : List Byte :=
      (w.map fun x => halfBytes (x.ordinal.setWidth 16)).getD [0xFF, 0xFF]
    (∀ i : SourceNo, a = BitVec.ofNat 8 i.val → exec (.getSource a) s = .next (s.answer (.getSource a)
      ([0x00] ++
        (match (s.source i).exposure with
          | .out d => [0, BitVec.ofNat 8 d.val]
          | .inn d => [1, BitVec.ofNat 8 d.val]
          | .enclosed => [2, 0xFF]
          | .unused => [3, 0xFF]) ++
        int (s.source i).full ++ int (s.source i).reduced ++ int (s.source i).probe ++
        int (min (s.source i).reduced (s.source i).full) ++ int (effProbe s.ctrl.spans (s.source i)) ++
        [holdByte (s.source i).hold, flag (s.source i).overflow] ++
        (match spanCeiling s.ctrl.spans (s.source i) with
          | .unbounded => [0, 0x80, 0x00]
          | .off => [1, 0x80, 0x00]
          | .value v => [2] ++ int v) ++
        power (s.source i).grant ++
        [flag (s.source i).enable,
          BitVec.ofNat 8 ((if (s.source i).exposure = .unused then 1 else 0) + 2 * (s.source i).overflow.toNat +
            (if (s.source i).hold = .off then 4 else 0) +
            (if spanCeiling s.ctrl.spans (s.source i) = .off then 8 else 0) +
            if ∃ r ∈ (s.source i).restrictions, r.ceiling = .off then 16 else 0),
          BitVec.ofNat 8 (s.source i).restrictions.length] ++
        (s.source i).restrictions.flatMap fun r => keyBytes r.origin.key ++
          [(r.origin.entry.map fun e => BitVec.ofNat 8 e.val).getD 0xFF, ceilingByte r.ceiling,
            persistenceByte r.persistence, flag r.latched]))) ∧
    (∀ d : Degree,
      let keys := (s.cond.active.filter fun r => r.withheld.getLsbD d).map CondRecord.key
      s.snapshotBytes d = [BitVec.ofNat 8 d.val, stateByte (s.span d).state, causeByte (s.span d).cause,
          BitVec.ofNat 8 (s.span d).failed,
          BitVec.ofNat 8 (keys.length + if s.words.own = 0 then 1 else 0), flag (decide (s.words.own = 0))] ++
        farOrdinal (s.line d).far ++ [flag (s.line d).lost] ++ (keys.take 16).flatMap keyBytes ++
        List.replicate (48 - 3 * keys.length) 0xFF) ∧
    (∀ d : Degree, a = BitVec.ofNat 8 d.val → exec (.getSpan a) s = .next (s.answer (.getSpan a)
      ([0x00] ++ s.snapshotBytes d ++
        [roleByte (s.span d).role, flag (s.span d).honoured, flag (s.span d).asserting,
          originByte (s.span d).origin] ++
        nat (s.span d).remaining ++ int (s.span d).config.hazardLimit ++ nat (s.span d).config.restartInterval ++
        [BitVec.ofNat 8 (s.span d).config.probeTime, BitVec.ofNat 8 (s.span d).config.probeLimit] ++
        nat (s.span d).config.settleTime ++ nat (s.span d).config.rampDepth ++ nat (s.span d).config.rampStep ++
        nat (s.span d).config.rampInterval ++
        [BitVec.ofNat 8 ((s.span d).seenDark.toNat + 2 * (s.span d).seenShut.toNat +
          4 * (s.span d).seenMiswire.toNat)] ++ farWord (s.line d).far ++ timerBytes (s.span d).settle ++
        timerBytes (s.span d).interval ++ timerBytes (s.span d).probeTimer ++ timerBytes (s.span d).rampTimer ++
        timerBytes (s.span d).request))) ∧
    (∀ d : Degree, a = BitVec.ofNat 8 d.val → ∃ l : List Byte,
      l = [0x00] ++ halfBytes (s.words.own.setWidth 16) ++ halfBytes ((s.line d).expected.setWidth 16) ++
        [BitVec.ofNat 8 ((s.line d).lost.toNat + 2 * (s.line d).shut.toNat + 4 * (s.line d).lockout.toNat +
          8 * (s.line d).miswire.toNat)] ++
        farOrdinal (s.line d).far ++ farWord (s.line d).far ++ timerBytes (s.line d).timer ++
        [BitVec.ofNat 8 (s.line d).recovery] ++ nat (s.line d).accepted ++ nat (s.line d).mismatched ++
        nat (s.line d).discarded ∧
      (∀ w, (s.line d).sent = some w → exec (.getLine a) s = .next (s.answer (.getLine a)
        (l ++ [(w.getD 3 0) >>> 5, (w.getD 3 0) &&& 0x1F]))) ∧
      ((s.line d).sent = none → exec (.getLine a) s = .next ({ s with freeIndex := s.freeIndex + 2 }.answer (.getLine a)
        (l ++ [Config.freeByte s.freeIndex, Config.freeByte (s.freeIndex + 1)])))) ∧
    (∀ (n : ProfileNo) (d : Degree), a = BitVec.ofNat 8 n.val → b = BitVec.ofNat 8 d.val →
      ∀ l, l = look (look s.store.profiles n).limits d →
      exec (.getProfile a b) s = .next (s.answer (.getProfile a b)
        ([0x00, a, b] ++ int l.darkLevel ++ int l.darkHyst ++ nat l.darkRaise ++ nat l.darkClear ++
          int l.reflectLimit ++ int l.reflectHyst ++ nat l.reflectRaise ++ nat l.reflectClear ++ int l.outFloor ++
          int l.pumpLimit ++ int l.pumpHyst ++ nat l.pumpRaise ++ nat l.pumpClear ++ nat l.lineTimeout ++
          [flag l.autoRestart, (look s.store.profiles n).mask.setWidth 8, BitVec.ofNat 8 s.store.active.val])))

/-- What the queries of the claim, the captures and the part answer, with nothing else changed (R154, R161, R163, R175,
laid out by R186 and R187): every byte of their replies, and NOT_OWNED for a page of a buffer that is not COMPLETE. The
requests they refuse for a field out of range are FieldsAreCodedAndOutOfRangeIsRefused's. -/
def Obligations.QueriesOfClaimsCapturesAndIdentity : Prop :=
  ∀ (s : State) (a b : Byte),
    (∀ c, s.claim.standing = some c → exec .getClaim s = .next (s.answer .getClaim
      ([0x00, 0x01, c.degrees.setWidth 8] ++ wordBytes (BitVec.ofNat 32 c.life) ++ [endCauseByte s.claim.lastEnd]))) ∧
    (s.claim.standing = none → exec .getClaim s = .next (s.answer .getClaim
      [0x00, 0x00, 0x00, 0xFF, 0xFF, 0xFF, 0xFF, endCauseByte s.claim.lastEnd])) ∧
    (∀ n : BufferNo, a = BitVec.ofNat 8 n.val → b.toNat < 8 →
      ((∀ t, look s.capture.buffers n ≠ .complete t) →
        exec (.readCapture a b) s = .next (s.answer (.readCapture a b) [0x22])) ∧
      ∀ t, look s.capture.buffers n = .complete t →
        exec (.readCapture a b) s = .next (s.answer (.readCapture a b)
          ([0x00, a, BitVec.ofNat 8 t.degree.val] ++ keyBytes t.key ++ wordBytes t.at_ ++
            [BitVec.ofNat 8 t.pre.length, b] ++ (List.range 16).flatMap fun n =>
              match (if 16 * b.toNat + n < 64 then
                  if 64 ≤ 16 * b.toNat + n + t.pre.length then t.pre[16 * b.toNat + n + t.pre.length - 64]? else none
                else t.post[16 * b.toNat + n - 64]?) with
              | some x => halfBytes (BitVec.ofInt 16 x.pIn) ++ halfBytes (BitVec.ofInt 16 x.pOut) ++
                [BitVec.ofNat 8 (x.dark.toNat + 2 * x.refl.toNat)]
              | none => [0x00, 0x00, 0x00, 0x00, 0x80]))) ∧
    (let buffer (x : Buffer) : List Byte :=
        match x with
        | .empty => [0x00, 0x00] ++ List.replicate 4 0xFF ++ List.replicate 6 0x00
        | .filling t => [0x00, 0x01, BitVec.ofNat 8 t.degree.val] ++ keyBytes t.key ++ wordBytes t.at_ ++
          [BitVec.ofNat 8 t.pre.length, BitVec.ofNat 8 t.post.length]
        | .complete t => [0x01, 0x02, BitVec.ofNat 8 t.degree.val] ++ keyBytes t.key ++ wordBytes t.at_ ++
          [BitVec.ofNat 8 t.pre.length, BitVec.ofNat 8 t.post.length]
      exec .getCapture s = .next (s.answer .getCapture
        ([0x00, BitVec.ofNat 8 s.capture.pointer.val] ++ buffer (look s.capture.buffers 0) ++
          buffer (look s.capture.buffers 1) ++
          [BitVec.ofNat 8 (look s.capture.rings 0).length, BitVec.ofNat 8 (look s.capture.rings 1).length,
            BitVec.ofNat 8 (look s.capture.rings 2).length, BitVec.ofNat 8 (look s.capture.rings 3).length]))) ∧
    exec .identify s = .next (s.answer .identify
      ([0x00, 0x04, 0x16, 0x01] ++ halfBytes (s.words.own.setWidth 16) ++
        [BitVec.ofNat 8 s.store.active.val, s.link.notify.setWidth 8]))

/-- A field out of its range refuses the whole request with BAD_VALUE, and nothing else changes (R1, R177 and the rules
that own the requests): a TEST_KEY key that is the full key of no instance (R40), a degree list that does not name one or
two different degrees (R146, R150). And what the values in range are: the codes of R183 and R182's loss reasons and end
causes, for the fields of every other statement, and the byte order of R177. A degree list of a length that no payload has
is answered with BAD_LENGTH, by the model's choice (notes/assumptions/24.md). -/
def Obligations.FieldsAreCodedAndOutOfRangeIsRefused : Prop :=
  ([Kind.darkIn, .reflect, .pumpReflect, .monitorFault, .lineLost, .farShut, .farLock, .miswire, .guardOpen, .keyOpen,
      .masterShut].map kindCode = [0, 1, 2, 3, 4, 5, 6, 7, 8, 9, 10] ∧
    [SpanCause.start, .cut, .blocked, .settled, .interval, .farRequest, .farProbe, .manual, .confirmed, .probeTimeout,
      .exhausted, .rampDone, .roleClash, .key, .command, .resume, .unlock].map causeByte =
      [0, 1, 2, 3, 4, 5, 6, 7, 8, 9, 10, 11, 12, 13, 14, 15, 16] ∧
    [SpanState.lit, .ramp, .probe, .await, .dark, .held, .locked].map stateByte = [0, 1, 2, 3, 4, 5, 6] ∧
    (∀ x, stateByte x = (stateCode x).setWidth 8) ∧
    [SpanRole.leading, .trailing, .unknown].map roleByte = [0, 1, 2] ∧
    [some ProbeOrigin.automatic, some .manualFromAwait, some .manualFromHeld, none].map originByte = [0, 1, 2, 0xFF] ∧
    [Ceiling.off, .probe, .reduced].map ceilingByte = [0, 1, 2] ∧
    [Hold.off, .probe, .reduced, .none].map holdByte = [0, 1, 2, 3] ∧
    [Persistence.follow, .latch].map persistenceByte = [0, 1] ∧
    [EndCause.reset, .replaced, .spanChange, .condition, .profile, .resync, .expired, .consumed].map endCauseByte =
      [0, 1, 2, 3, 4, 5, 6, 7] ∧
    [LossReason.absent, .setMismatch, .stale].map lossByte = [0, 1, 2]) ∧
  (∀ (h : Half) (w : Word32) (t : Timer),
    halfBytes h = [BitVec.ofNat 8 (h.toNat / 256), BitVec.ofNat 8 h.toNat] ∧
    wordBytes w = [BitVec.ofNat 8 (w.toNat / 16777216), BitVec.ofNat 8 (w.toNat / 65536), BitVec.ofNat 8 (w.toNat / 256),
      BitVec.ofNat 8 w.toNat] ∧
    timerBytes t = (match t with
      | some n => wordBytes (BitVec.ofNat 32 n)
      | none => [0xFF, 0xFF, 0xFF, 0xFF])) ∧
  ∀ (s : State) (a b c : Byte) (x y z : Half) (k : RawKey) (l : RawLimits) (g : RawSpanConfig) (n : List Byte),
    (16 ≤ a.toNat → ∀ i ∈ [Instr.setChannel a x y, .setSource a b c x y z, .holdSource a b, .releaseLatch a,
      .getSource a, .getReading a b, .setNotify a, .setProfile b c l b a], exec i s = .next (s.answer i [0x12])) ∧
    (64 ≤ a.toNat → ∀ i ∈ [Instr.parkEntry a, .unparkEntry a, .freeEntry a, .getEntry a],
      exec i s = .next (s.answer i [0x12])) ∧
    (53 ≤ a.toNat → exec (.getConditions a b) s = .next (s.answer (.getConditions a b) [0x12])) ∧
    (4 ≤ a.toNat → ∀ i ∈ [Instr.setSpan a g, .lock a, .getSpan a, .getLine a, .holdSource b a, .setProfile b a l c c,
      .getProfile b a], exec i s = .next (s.answer i [0x12])) ∧
    (2 ≤ a.toNat → ∀ i ∈ [Instr.setProfile a b l c c, .getProfile a b, .selectProfile a, .readCapture a b,
      .releaseCapture a, .setProfile b c l a c, .getConditions b a], exec i s = .next (s.answer i [0x12])) ∧
    (8 ≤ a.toNat → ∀ i ∈ [Instr.readCapture b a, .setContact a b c c c], exec i s = .next (s.answer i [0x12])) ∧
    (b = 0 ∨ 16 < a.toNat + b.toNat → exec (.getReading a b) s = .next (s.answer (.getReading a b) [0x12])) ∧
    ((∀ q, ¬SpellsTestedKey k q) ∨ a = 0 ∨ 4 ≤ a.toNat ∨ 2 ≤ b.toNat →
      exec (.testKey k a b) s = .next (s.answer (.testKey k a b) [0x12])) ∧
    ∀ i ∈ [Instr.claim a n, .resume a n, .unlock a n, .probeNow a b n],
      ((n.length = 1 ∨ n.length = 2) → (1 ≤ a.toNat → a.toNat ≤ 2 → n.length = a.toNat) →
        (∀ m, ¬NamesDegrees a n m) → exec i s = .next (s.answer i [0x12])) ∧
      ((n.length ≠ 1 ∧ n.length ≠ 2) ∨ (1 ≤ a.toNat ∧ a.toNat ≤ 2 ∧ n.length ≠ a.toNat) →
        exec i s = .next (s.answer i [0x11]))

/-- The payload that spells a request is read back as that request, for every request and every value of its fields; and
a kind and a payload that pass the checks of R169 steps 1 and 2 spell a request of that kind whose lists have lengths that
fit their counts, and are what that request is spelt by (R169, R177, R181, R184, R187). A PUT_ENTRY whose count is above 4
passes with any length from 9 to 21 (R169 step 2, R181): its one or two bytes beyond whole actions are then in no field,
and the request is refused whatever they are (R43). -/
def Obligations.RequestPayloadsAreReadBack : Prop :=
  (∀ (i : Instr) (k : Byte), i.wellFormed = true → requestKind i = some k →
    checkRequest k (requestPayload i) = .request i) ∧
  (∀ (k : Byte) (p : List Byte) (i : Instr), checkRequest k p = .request i →
    requestKind i = some k ∧ i.wellFormed = true ∧
    (p = requestPayload i ∨ ∃ (a t cls n x w : Byte) (key : RawKey) (as : List RawAction) (more : List Byte),
      i = .putEntry a t key cls n as x w ∧ 4 < n.toNat ∧ more.length ≤ 2 ∧ p.length ≤ 21 ∧
      p = requestPayload i ++ more))

/-! ### The hazard map -/

/-- LOOKUP (R39, R50, R51, R54 to R57): the matched list, the orders of floor and entries to the grant unit, the cut
orders and then the lock orders to the span controller, the snapshot to the condition unit. -/
def Obligations.ALookupIssuesItsOrders : Prop :=
  ∀ (k : Key) (rest : List MapItem) (s : State), s.map.queue = .key k :: rest →
    ∃ (t : State) (m : List EntryNo) (cuts withheld : DegSet), exec .lookup s = .next t ∧
      m.Pairwise (· < ·) ∧
      (∀ e, e ∈ m ↔ ∃ c, s.entry e = .live c ∧ s.profile.mask.getLsbD c.cls = true ∧ c.key.kind = k.kind ∧
        (c.key.degree = none ∨ c.key.degree = k.degree) ∧ (c.key.detail = none ∨ c.key.detail = k.detail)) ∧
      (∀ d : Degree, cuts.getLsbD d = true ↔
        (floorCut k).getLsbD d = true ∨ ∃ e ∈ m, ∃ c, s.entry e = .live c ∧ c.cut.getLsbD d = true) ∧
      (∀ d : Degree, withheld.getLsbD d = true ↔
        (floorWithhold k).getLsbD d = true ∨ ∃ e ∈ m, ∃ c, s.entry e = .live c ∧ c.withhold.getLsbD d = true) ∧
      t = { s with
        map := { s.map with queue := rest }
        transit := { s.transit with
          toGrant := s.transit.toGrant ++ floorEvents k ++ m.flatMap (fun e =>
            match s.entry e with
            | .live c => c.actions.map fun a =>
                .restriction (.one a.source) a.ceiling a.persistence { key := k, entry := some e }
            | .free => []
            | .parked _ => [])
          toSpan := s.transit.toSpan ++ (DegSet.toList cuts).map (fun d => .cut d k) ++
            (floorLocks k).map fun d => .lock d .key
          snapshots := s.transit.snapshots ++ [.lookup k m withheld] } }

/-- The floor of each kind (R52, R53): whom it restricts, which span it cuts, which degree it withholds, which spans it
locks. -/
def Obligations.TheFloorOfEachKind : Prop :=
  (∀ d : Degree,
    (∀ k ∈ [Kind.darkIn, .farShut], floorEvents (degreeKey k d) = [] ∧ floorCut (degreeKey k d) = DegSet.one d ∧
      floorWithhold (degreeKey k d) = 0 ∧ floorLocks (degreeKey k d) = []) ∧
    (∀ k ∈ [Kind.lineLost, .farLock], floorEvents (degreeKey k d) = [] ∧ floorCut (degreeKey k d) = 0 ∧
      floorWithhold (degreeKey k d) = DegSet.one d ∧ floorLocks (degreeKey k d) = []) ∧
    floorEvents (degreeKey .miswire d) = [] ∧ floorCut (degreeKey .miswire d) = DegSet.one d ∧
    floorWithhold (degreeKey .miswire d) = DegSet.one d ∧
    floorEvents (degreeKey .reflect d) =
      [.restriction (.exposure (.out d)) .reduced .follow { key := degreeKey .reflect d, entry := none }] ∧
    floorEvents (degreeKey .pumpReflect d) =
      [.restriction (.exposure (.inn d)) .off .follow { key := degreeKey .pumpReflect d, entry := none }] ∧
    (∀ k ∈ [Kind.reflect, .pumpReflect], floorCut (degreeKey k d) = 0 ∧ floorWithhold (degreeKey k d) = 0) ∧
    floorCut (faultKey (channel d 0)) = DegSet.one d ∧ floorWithhold (faultKey (channel d 0)) = DegSet.one d ∧
    floorEvents (faultKey (channel d 0)) = [] ∧
    floorCut (faultKey (channel d 1)) = 0 ∧ floorWithhold (faultKey (channel d 1)) = 0 ∧
    floorEvents (faultKey (channel d 1)) = [] ∧
    floorCut (faultKey (channel d 2)) = 0 ∧ floorWithhold (faultKey (channel d 2)) = DegSet.one d ∧
    floorEvents (faultKey (channel d 2)) =
      [.restriction (.exposure (.out d)) .reduced .follow { key := faultKey (channel d 2), entry := none }] ∧
    floorCut (faultKey (channel d 3)) = 0 ∧ floorWithhold (faultKey (channel d 3)) = 0 ∧
    floorEvents (faultKey (channel d 3)) =
      [.restriction (.exposure (.inn d)) .off .follow { key := faultKey (channel d 3), entry := none }]) ∧
  (∀ (d : Option Degree) (n : ContactNo),
    (∀ k ∈ [Kind.guardOpen, .keyOpen], floorEvents { kind := k, degree := d, detail := some (.contact n) } = [] ∧
      floorCut { kind := k, degree := d, detail := some (.contact n) } = 0 ∧
      floorWithhold { kind := k, degree := d, detail := some (.contact n) } = 0) ∧
    floorLocks { kind := .guardOpen, degree := d, detail := some (.contact n) } = [] ∧
    floorLocks { kind := .keyOpen, degree := d, detail := some (.contact n) } = (d.map fun x => [x]).getD [0, 1, 2, 3]) ∧
  floorEvents shutKey = [.restriction .every .off .follow { key := shutKey, entry := none }] ∧
  floorCut shutKey = 0 ∧ floorWithhold shutKey = 0 ∧ ∀ k : Key, k.kind ≠ .keyOpen → floorLocks k = []

/-- REEVALUATION (R141 to R143): for every record whose key does not wait, oldest first, with its new list by R50 and R51
and its previous list, first the removals of its leaving entries, then the orders of its arriving ones, then their cuts,
then the rewritten snapshots with the new list and the degrees withheld by its entries and by the floor; no floor order
and no lock. Where the previous list comes from is the model's reading (notes/assumptions/17.md). -/
def Obligations.AReevaluationMovesEveryRecord : Prop :=
  ∀ (rest : List MapItem) (s : State), s.map.queue = .reevaluate :: rest →
    ∃ (t : State) (rs : List CondRecord) (old new : CondRecord → List EntryNo) (cuts withheld : CondRecord → DegSet),
      exec .reevaluation s = .next t ∧
      rs = s.cond.active.filter (fun r => decide (MapItem.key r.key ∉ rest)) ∧
      (∀ r, (∀ e ∈ s.transit.snapshots, e.keyed.1 ≠ r.key) → old r = r.matched) ∧
      (∀ r a e b, s.transit.snapshots = a ++ e :: b → e.keyed.1 = r.key → (∀ x ∈ b, x.keyed.1 ≠ r.key) →
        old r = e.keyed.2) ∧
      (∀ r, (new r).Pairwise (· < ·)) ∧
      (∀ r e, e ∈ new r ↔ ∃ c, s.entry e = .live c ∧ s.profile.mask.getLsbD c.cls = true ∧ c.key.kind = r.key.kind ∧
        (c.key.degree = none ∨ c.key.degree = r.key.degree) ∧ (c.key.detail = none ∨ c.key.detail = r.key.detail)) ∧
      (∀ r, ∀ d : Degree, (cuts r).getLsbD d = true ↔
        ∃ e ∈ new r, e ∉ old r ∧ ∃ c, s.entry e = .live c ∧ c.cut.getLsbD d = true) ∧
      (∀ r, ∀ d : Degree, (withheld r).getLsbD d = true ↔
        (floorWithhold r.key).getLsbD d = true ∨ ∃ e ∈ new r, ∃ c, s.entry e = .live c ∧ c.withhold.getLsbD d = true) ∧
      t = { s with
        map := { s.map with queue := rest }
        transit := { s.transit with
          toGrant := s.transit.toGrant ++
            (rs.flatMap fun r => ((List.finRange 64).filter fun e => decide (e ∈ old r ∧ e ∉ new r)).map fun e =>
              .removal { key := r.key, entry := some e }) ++
            rs.flatMap fun r => ((new r).filter fun e => decide (e ∉ old r)).flatMap fun e =>
              match s.entry e with
              | .live c => c.actions.map fun a =>
                  .restriction (.one a.source) a.ceiling a.persistence { key := r.key, entry := some e }
              | .free => []
              | .parked _ => []
          toSpan := s.transit.toSpan ++ rs.flatMap fun r => (DegSet.toList (cuts r)).map fun d => .cut d r.key
          snapshots := s.transit.snapshots ++ rs.map fun r => .rewritten r.key (new r) (withheld r) } }

/-- PUT_ENTRY (R43, R44): refused as a whole where a check fails, which is where its fields spell no content (EntrySpelt),
or the target state or the placement is out of range; else at the given index, or at the lowest FREE one, or
TABLE_FULL where none is FREE. PARK_ENTRY and UNPARK_ENTRY (R45) on an entry in each of its three states, FREE_ENTRY (R46)
whatever the entry's state, and the refusal of an index of 64 or above. An action list of a length that no payload has is
answered with BAD_LENGTH, by the model's choice (notes/assumptions/24.md). -/
def Obligations.EntriesAreEdited : Prop :=
  (∀ (p g : Byte) (key : RawKey) (cls n : Byte) (as : List RawAction) (x w : Byte) (s : State),
    (4 < as.length ∨ (n.toNat ≤ 4 ∧ as.length ≠ n.toNat) →
      exec (.putEntry p g key cls n as x w) s = .next (s.answer (.putEntry p g key cls n as x w) [0x11])) ∧
    (as.length ≤ 4 → (n.toNat ≤ 4 → as.length = n.toNat) →
      (∀ c, ¬EntrySpelt key cls n as x w c) ∨ (g ≠ 1 ∧ g ≠ 2) ∨ (64 ≤ p.toNat ∧ p ≠ 0xFF) →
      exec (.putEntry p g key cls n as x w) s = .next (s.answer (.putEntry p g key cls n as x w) [0x12])) ∧
    (∀ c y, EntrySpelt key cls n as x w c → (g = 1 ∧ y = .live c) ∨ (g = 2 ∧ y = .parked c) →
      (∀ e : EntryNo, p = BitVec.ofNat 8 e.val ∨ (p = 0xFF ∧ s.entry e = .free ∧ ∀ f < e, s.entry f ≠ .free) →
        exec (.putEntry p g key cls n as x w) s =
          .next ((s.setEntry e y).answer (.putEntry p g key cls n as x w) [0x00, BitVec.ofNat 8 e.val])) ∧
      (p = 0xFF → (∀ e, s.entry e ≠ .free) →
        exec (.putEntry p g key cls n as x w) s = .next (s.answer (.putEntry p g key cls n as x w) [0x20])))) ∧
  ∀ (a : Byte) (s : State),
    (64 ≤ a.toNat → exec (.parkEntry a) s = .next (s.answer (.parkEntry a) [0x12]) ∧
      exec (.unparkEntry a) s = .next (s.answer (.unparkEntry a) [0x12]) ∧
      exec (.freeEntry a) s = .next (s.answer (.freeEntry a) [0x12])) ∧
    (∀ e : EntryNo, a = BitVec.ofNat 8 e.val →
      (∃ t : State, exec (.freeEntry a) s = .next (t.answer (.freeEntry a) [0x00]) ∧ t.entry e = .free ∧
        (∀ f, f ≠ e → t.entry f = s.entry f) ∧ t = { s with map := { s.map with entries := t.map.entries } }) ∧
      (s.entry e = .free → exec (.parkEntry a) s = .next (s.answer (.parkEntry a) [0x21]) ∧
        exec (.unparkEntry a) s = .next (s.answer (.unparkEntry a) [0x21])) ∧
      (∀ c, s.entry e = .live c → exec (.unparkEntry a) s = .next (s.answer (.unparkEntry a) [0x00]) ∧
        ∃ t : State, exec (.parkEntry a) s = .next (t.answer (.parkEntry a) [0x00]) ∧ t.entry e = .parked c ∧
          (∀ f, f ≠ e → t.entry f = s.entry f) ∧ t = { s with map := { s.map with entries := t.map.entries } }) ∧
      (∀ c, s.entry e = .parked c → exec (.parkEntry a) s = .next (s.answer (.parkEntry a) [0x00]) ∧
        ∃ t : State, exec (.unparkEntry a) s = .next (t.answer (.unparkEntry a) [0x00]) ∧ t.entry e = .live c ∧
          (∀ f, f ≠ e → t.entry f = s.entry f) ∧ t = { s with map := { s.map with entries := t.map.entries } }))

/-! ### The grant unit -/

/-- The effective values and the span ceiling of a source (R61, R71). -/
def Obligations.EffectiveValuesAndSpanCeilings : Prop :=
  ∀ (spans : Vector Span 4) (x : Source) (d : Degree),
    x.effReduced = min x.reduced x.full ∧ effProbe spans x ≤ x.full ∧ effProbe spans x ≤ x.probe ∧
    (x.exposure = .enclosed ∨ x.exposure = .unused → effProbe spans x = min x.probe x.full) ∧
    (x.exposure = .out d ∨ x.exposure = .inn d →
      effProbe spans x = min (min x.probe x.full) (look spans d).config.hazardLimit) ∧
    (x.exposure = .enclosed → spanCeiling spans x = .unbounded) ∧
    (x.exposure = .out d ∨ x.exposure = .inn d →
      ((look spans d).state = .lit → spanCeiling spans x = .unbounded) ∧
      ((look spans d).state = .ramp → ∃ v, spanCeiling spans x = .value v ∧
        v = max (effProbe spans x) (x.full - (look spans d).remaining) ∧ effProbe spans x ≤ v ∧ v ≤ x.full) ∧
      ((look spans d).state = .await ∨ (look spans d).state = .dark ∨ (look spans d).state = .held ∨
          (look spans d).state = .locked →
        spanCeiling spans x = .off ∧ grantOf spans x = none)) ∧
    (x.exposure = .out d → (look spans d).state = .probe →
      spanCeiling spans x = .value (effProbe spans x) ∧ ∀ v, grantOf spans x = some v → v ≤ effProbe spans x) ∧
    (x.exposure = .inn d → (look spans d).state = .probe → spanCeiling spans x = .off ∧ grantOf spans x = none)

/-- The grant (R73): OFF exactly where one of the five reasons holds, or while a floor order of MASTER_SHUT is lost (R75, by
the model's choice where R67 and R73 say otherwise, notes/assumptions/30.md); otherwise the lowest of its terms, one of
which it is and none of which it exceeds. -/
def Obligations.TheGrantIsTheLowestTerm : Prop :=
  ∀ (spans : Vector Span 4) (x : Source),
    (grantOf spans x = none ↔ x.exposure = .unused ∨ x.overflow = true ∨ x.hold = .off ∨ spanCeiling spans x = .off ∨
      (∃ r ∈ x.restrictions, r.ceiling = .off) ∨ x.lostShut = true) ∧
    ∀ v, grantOf spans x = some v →
      v ≤ x.full ∧ (∀ c, spanCeiling spans x = .value c → v ≤ c) ∧ (x.hold = .reduced → v ≤ x.effReduced) ∧
      (x.hold = .probe → v ≤ effProbe spans x) ∧
      (∀ r ∈ x.restrictions, (r.ceiling = .reduced → v ≤ x.effReduced) ∧
        (r.ceiling = .probe → v ≤ effProbe spans x)) ∧
      (v = x.full ∨ spanCeiling spans x = .value v ∨ (x.hold = .reduced ∧ v = x.effReduced) ∨
        (x.hold = .probe ∧ v = effProbe spans x) ∨
        ∃ r ∈ x.restrictions, (r.ceiling = .reduced ∧ v = x.effReduced) ∨ (r.ceiling = .probe ∧ v = effProbe spans x)) ∧
      (Within (-1000) 3000 x.full → Within (-1000) 3000 x.reduced → Within (-1000) 3000 x.probe →
        (∀ d, -1000 ≤ (look spans d).config.hazardLimit) → Within (-1000) 3000 v)

/-- From the moment the grant unit takes the floor order of MASTER_SHUT until it takes the clear of MASTER_SHUT, every
source's grant is OFF (R75), whatever its collection held and whatever leaves it: also where R67 has cleared an overflow
mark which that order set (the model's choice, notes/assumptions/30.md). Only a reset ends it otherwise. -/
def Obligations.EveryGrantIsOffUntilTheClearOfMasterShut : Prop :=
  (∀ (rest : List GrantEvent) (s : State), s.transit.toGrant = .restriction .every .off .follow shutFloor :: rest →
    ∃ t, exec .restrictionOrder s = .next t ∧ ∀ j, ShutHeld (t.source j) ∧ (t.source j).grant = none) ∧
  ∀ (i : Instr) (s t : State), (∀ j, ShutHeld (s.source j) ∧ (s.source j).grant = none) → s.ShutOrdersSafe →
    exec i s = .next t →
    t.ShutOrdersSafe ∧
    ((∀ j, ShutHeld (t.source j) ∧ (t.source j).grant = none) ∨
      (i = .clearAtGrantUnit ∧ ∃ rest, s.transit.toGrant = .clear shutKey :: rest) ∨ i = .powerOnReset ∨
      (i = .replySent ∧ ∃ h r rest, s.link.hand = some h ∧ h.frame.kind = 0x24 ∧ h.frame.payload = [] ∧
        s.link.replies = r :: rest ∧ r.busy = false))

/-- RESTRICTION_ORDER (R66, R67, R74): every source addressed, as its record stands, takes the order by the table of R66
and has its grant recomputed, with the SOURCE reports of the enable lines that change (R77); no other source changes. That
MASTER_SHUT's floor order at a full collection is kept in mind is the model's (notes/assumptions/30.md). That a report
carries the reasons that hold at its own order, and not those after the last order of its lookup, is the model's choice
beside the spec's worked example (notes/assumptions/35.md). -/
def Obligations.ARestrictionOrderIsTaken : Prop :=
  ∀ (g : Target) (c : Ceiling) (p : Persistence) (o : Origin) (rest : List GrantEvent) (s : State),
    s.transit.toGrant = .restriction g c p o :: rest → ∃ (t : State) (f : SourceNo → Source),
      exec .restrictionOrder s = .next t ∧
      SourcesChanged { s with transit := { s.transit with toGrant := rest } } f t ∧
      (∀ j, (g = .one j ∨ g = .exposure (s.source j).exposure ∨ g = .every) →
        ((∃ r ∈ (s.source j).restrictions, r.origin = o) →
          f j = Source.regranted s.ctrl.spans { s.source j with
            restrictions := (s.source j).restrictions.map fun r =>
              if r.origin = o then { r with ceiling := c, persistence := p, latched := false } else r }) ∧
        ((∀ r ∈ (s.source j).restrictions, r.origin ≠ o) → (s.source j).restrictions.length < 8 →
          f j = Source.regranted s.ctrl.spans { s.source j with
            restrictions := (s.source j).restrictions ++
              [{ origin := o, ceiling := c, persistence := p, latched := false }] }) ∧
        ((∀ r ∈ (s.source j).restrictions, r.origin ≠ o) → 8 ≤ (s.source j).restrictions.length →
          f j = Source.regranted s.ctrl.spans { s.source j with
            overflow := true, lostShut := (s.source j).lostShut || decide (o = shutFloor) } ∧ (f j).grant = none)) ∧
      (∀ j, ¬(g = .one j ∨ g = .exposure (s.source j).exposure ∨ g = .every) → f j = s.source j)

/-- CLEAR_AT_GRANT_UNIT (R68) and REMOVAL_ORDER (R69) at every source: the records they remove or latch, the overflow mark
of a collection they empty, and the grant of every source recomputed, with the SOURCE reports of the enable lines that
change (R74, R77). That the clear of MASTER_SHUT ends its lost floor order is the model's (notes/assumptions/30.md). -/
def Obligations.ClearsAndRemovalsAtTheGrantUnit : Prop :=
  ∀ (rest : List GrantEvent) (s : State),
    (∀ k, s.transit.toGrant = .clear k :: rest → ∃ (t : State) (l : SourceNo → List Restriction),
      exec .clearAtGrantUnit s = .next t ∧
      (∀ j, l j = (s.source j).restrictions.filterMap fun r =>
        if r.origin.key ≠ k then some r
        else match r.persistence with
          | .follow => none
          | .latch => some { r with latched := true }) ∧
      SourcesChanged { s with transit := { s.transit with toGrant := rest } }
        (fun j => Source.regranted s.ctrl.spans { s.source j with
          restrictions := l j
          overflow := (s.source j).overflow && !((l j).isEmpty && !(s.source j).restrictions.isEmpty)
          lostShut := (s.source j).lostShut && decide (k ≠ shutKey) }) t) ∧
    (∀ o, s.transit.toGrant = .removal o :: rest → ∃ (t : State) (l : SourceNo → List Restriction),
      exec .removalOrder s = .next t ∧
      (∀ j, l j = (s.source j).restrictions.filter fun r => r.origin ≠ o ∨ r.latched = true) ∧
      SourcesChanged { s with transit := { s.transit with toGrant := rest } }
        (fun j => Source.regranted s.ctrl.spans { s.source j with
          restrictions := l j
          overflow := (s.source j).overflow && !((l j).isEmpty && !(s.source j).restrictions.isEmpty) }) t)

/-- HOLD_SOURCE (R64): the hold stored and the grant recomputed, with what each hold does to the grant and the SOURCE
report of an enable line that changes (R77); refused as a whole where the source or the hold is out of range. -/
def Obligations.AnOperatorHoldIsSet : Prop :=
  ∀ (a b : Byte) (s : State),
    (16 ≤ a.toNat ∨ 4 ≤ b.toNat → exec (.holdSource a b) s = .next (s.answer (.holdSource a b) [0x12])) ∧
    (∀ (i : SourceNo) (h : Hold), a = BitVec.ofNat 8 i.val → b = holdByte h → ∃ t : State,
      exec (.holdSource a b) s = .next (t.answer (.holdSource a b) [0x00]) ∧
      SourcesChanged s (fun j => if j = i then Source.regranted s.ctrl.spans { s.source i with hold := h }
        else s.source j) t ∧
      (h = .off → (t.source i).grant = none) ∧
      (∀ v, (t.source i).grant = some v → (h = .reduced → v ≤ (s.source i).effReduced) ∧
        (h = .probe → v ≤ effProbe s.ctrl.spans (s.source i))))

/-- SET_SOURCE (R62, R63): the setpoints clamped, the probe setpoint of an exposed source also to the hazard limit of its
span, the grant recomputed with the SOURCE report of an enable line that changes (R77). After a change of exposure, and
only then, the floor orders of the raised conditions that address the new exposure have been applied: every record stands
as it was unless such an order of its origin has replaced it, no record has come but by such an order, and each of them is
in the collection, or has met it full and set the overflow mark, which is newly set by nothing else (R66, R67). That
MASTER_SHUT's at a full collection is kept in mind is the model's (notes/assumptions/30.md). -/
def Obligations.ASourceIsConfigured : Prop :=
  ∀ (a e d : Byte) (f r p : Half) (s : State),
    (16 ≤ a.toNat ∨ 4 ≤ e.toNat ∨ (e.toNat < 2 ∧ 4 ≤ d.toNat) →
      exec (.setSource a e d f r p) s = .next (s.answer (.setSource a e d f r p) [0x12])) ∧
    (∀ (i : SourceNo) (x : Exposure), a = BitVec.ofNat 8 i.val →
      (match x with
        | .out n => e = 0 ∧ d = BitVec.ofNat 8 n.val
        | .inn n => e = 1 ∧ d = BitVec.ofNat 8 n.val
        | .enclosed => e = 2
        | .unused => e = 3) → ∃ (t : State) (y : Source) (code : Byte),
      let floor (k : Key) (c : Ceiling) : Prop := (s.source i).exposure ≠ x ∧ x.degree ≠ none ∧
        (∃ z ∈ s.cond.active, z.key = k) ∧
        (floorEvents k = [.restriction (.exposure x) c .follow { key := k, entry := none }] ∨
          floorEvents k = [.restriction .every c .follow { key := k, entry := none }])
      let ordered (k : Key) (c : Ceiling) : Restriction :=
        { origin := { key := k, entry := none }, ceiling := c, persistence := .follow, latched := false }
      let absent (k : Key) : Prop := ∀ z ∈ y.restrictions, z.origin ≠ { key := k, entry := none }
      exec (.setSource a e d f r p) s = .next (t.answer (.setSource a e d f r p) [code]) ∧
      SourcesChanged s (fun j => if j = i then Source.regranted s.ctrl.spans y else s.source j) t ∧
      y = { s.source i with
        exposure := x, full := max (-1000) (min 3000 f.toInt), reduced := max (-1000) (min 3000 r.toInt)
        probe := match x with
          | .out n => min (max (-1000) (min 3000 p.toInt)) (s.span n).config.hazardLimit
          | .inn n => min (max (-1000) (min 3000 p.toInt)) (s.span n).config.hazardLimit
          | .enclosed => max (-1000) (min 3000 p.toInt)
          | .unused => max (-1000) (min 3000 p.toInt)
        restrictions := y.restrictions, overflow := y.overflow, lostShut := y.lostShut } ∧
      code = (if y.full = f.toInt ∧ y.reduced = r.toInt ∧ y.probe = p.toInt then 0x00 else 0x01) ∧
      (∀ z ∈ (s.source i).restrictions, (z ∈ y.restrictions ∧ (z.origin.entry = none → ∀ c, ¬floor z.origin.key c)) ∨
        ∃ c, z.origin.entry = none ∧ floor z.origin.key c ∧ ordered z.origin.key c ∈ y.restrictions) ∧
      (∀ z ∈ y.restrictions, z ∈ (s.source i).restrictions ∨ ∃ k c, floor k c ∧ z = ordered k c) ∧
      y.restrictions.length ≤ max 8 (s.source i).restrictions.length ∧
      (y.restrictions.map Restriction.origin).take (s.source i).restrictions.length =
        (s.source i).restrictions.map Restriction.origin ∧
      (∀ k c, floor k c → ordered k c ∈ y.restrictions ∨ (absent k ∧ 8 ≤ y.restrictions.length)) ∧
      (y.overflow = true ↔ (s.source i).overflow = true ∨ ∃ k c, floor k c ∧ absent k) ∧
      (y.lostShut = true ↔ (s.source i).lostShut = true ∨ ∃ c, floor shutKey c ∧ absent shutKey))

/-- RELEASE_LATCH (R70, R150, R151): every LATCHED record of the source goes, the overflow mark of a collection now empty
is cleared (R67) and the grant is recomputed, with the SOURCE report of an enable line that changes (R77). An exposed
source needs a claim on exactly its degree with nothing changed since, which is consumed; without it nothing else changes.
That a claim stands until its break is taken at the claim unit, so that a commit before that passes, is the model's choice
(notes/assumptions/36.md). -/
def Obligations.LatchesAreReleasedUnderAClaim : Prop :=
  ∀ (a : Byte) (i : SourceNo) (s : State), a = BitVec.ofNat 8 i.val →
    let kept := (s.source i).restrictions.filter fun r => !r.latched
    let released (j : SourceNo) : Source :=
      if j = i then Source.regranted s.ctrl.spans { s.source i with
        restrictions := kept, overflow := (s.source i).overflow && !kept.isEmpty }
      else s.source j
    ((s.source i).exposure.degree = none → ∃ t : State,
      exec (.releaseLatch a) s = .next (t.answer (.releaseLatch a) [0x00]) ∧ SourcesChanged s released t) ∧
    (∀ d c, (s.source i).exposure.degree = some d → s.claim.standing = some c → c.degrees = DegSet.one d →
      (∀ r ∈ c.recorded, r.changes = (s.span r.degree).changes ∧ r.touch = look s.cond.touch r.degree) → ∃ t : State,
      exec (.releaseLatch a) s = .next (t.answer (.releaseLatch a) [0x00]) ∧
      SourcesChanged { s with claim := { standing := none, lastEnd := .consumed } } released t) ∧
    (∀ d, (s.source i).exposure.degree = some d → ∀ l, s.claimCheck (DegSet.one d) = some l →
      exec (.releaseLatch a) s = .next (State.answer (s.endClaim .consumed) (.releaseLatch a) [0x30, lossByte l]))

/-! ### The span controller -/

/-- CUT_ORDER (R81, R87, R89): the condition view, then by state. LIT goes to DARK; RAMP and PROBE count a failed probe
and go to DARK, or to HELD at the probe limit; the other states stay. -/
def Obligations.ACutOrderIsTaken : Prop :=
  ∀ (d : Degree) (k : Key) (rest : List SpanEvent) (s : State), s.transit.toSpan = .cut d k :: rest →
    ∃ (t : State) (v : Span) (u : State) (n : Nat), exec .cutOrder s = .next t ∧
      v = { s.span d with
        seenDark := decide (k = degreeKey .darkIn d) || (s.span d).seenDark
        seenShut := decide (k = degreeKey .farShut d) || (s.span d).seenShut
        seenMiswire := decide (k = degreeKey .miswire d) || (s.span d).seenMiswire } ∧
      u = { s.setSpan d v with transit := { s.transit with toSpan := rest } } ∧ n = min 15 (v.failed + 1) ∧
      (v.state = .lit → SpanChange u d
        { v with
          state := .dark, cause := .cut, settle := if s.blocked d then none else some v.config.settleTime,
          interval := some (v.config.restartInterval * 1000), probeTimer := none, rampTimer := none, request := none,
          view := if s.blocked d then .notEmpty else .empty, changes := v.changes + 1 } (some k) t) ∧
      (v.state = .ramp ∨ v.state = .probe →
        (n < v.config.probeLimit → SpanChange u d
          { v with
            state := .dark, cause := .cut, failed := n, remaining := if v.state = .ramp then 0 else v.remaining,
            settle := if s.blocked d then none else some v.config.settleTime,
            interval := some (v.config.restartInterval * 1000), probeTimer := none, rampTimer := none, request := none,
            view := if s.blocked d then .notEmpty else .empty,
            origin := if v.state = .probe then none else v.origin, changes := v.changes + 1 } (some k) t) ∧
        (v.config.probeLimit ≤ n → SpanChange u d
          { v with
            state := .held, cause := .exhausted, failed := n, remaining := if v.state = .ramp then 0 else v.remaining,
            settle := none, interval := none, probeTimer := none, rampTimer := none, request := none,
            origin := if v.state = .probe then none else v.origin, changes := v.changes + 1 } (some k) t)) ∧
      (v.state = .await ∨ v.state = .dark ∨ v.state = .held ∨ v.state = .locked → t = u)

/-- LOCK_ORDER (R90), and LOCK (R91), which is a lock order with cause COMMAND and answers OK in every state: any state
but LOCKED goes to LOCKED with the order's cause; in LOCKED a KEY order writes its cause and a COMMAND order changes
nothing. -/
def Obligations.ALockOrderIsTaken : Prop :=
  ∀ (d : Degree) (rest : List SpanEvent) (s : State),
    let toLocked (c : SpanCause) : Span := { s.span d with
      state := .locked, cause := c, asserting := if (s.span d).state = .await then false else (s.span d).asserting,
      remaining := if (s.span d).state = .ramp then 0 else (s.span d).remaining, settle := none, interval := none,
      probeTimer := none, rampTimer := none, request := none,
      origin := if (s.span d).state = .probe then none else (s.span d).origin, changes := (s.span d).changes + 1 }
    let u : State := { s with transit := { s.transit with toSpan := rest } }
    (s.transit.toSpan = .lock d .key :: rest →
      ((s.span d).state = .locked → exec .lockOrder s = .next (u.setSpan d { s.span d with cause := .key })) ∧
      ((s.span d).state ≠ .locked → ∃ t, exec .lockOrder s = .next t ∧ SpanChange u d (toLocked .key) none t)) ∧
    (s.transit.toSpan = .lock d .command :: rest →
      ((s.span d).state = .locked → exec .lockOrder s = .next u) ∧
      ((s.span d).state ≠ .locked → ∃ t, exec .lockOrder s = .next t ∧ SpanChange u d (toLocked .command) none t)) ∧
    (∀ a : Byte, a = BitVec.ofNat 8 d.val →
      ((s.span d).state = .locked → exec (.lock a) s = .next (s.answer (.lock a) [0x00])) ∧
      ((s.span d).state ≠ .locked → ∃ t : State,
        exec (.lock a) s = .next (t.answer (.lock a) [0x00]) ∧ SpanChange s d (toLocked .command) none t))

/-- BLOCKER_REEXAMINATION and CLEAR_AT_SPAN_CONTROLLER (R81, R92, R93, R112): what the blocker set holds, what a
re-examination does by state, and a clear, which takes its condition out of the view, re-examines the degrees its record
withheld, and for DARK_IN and FAR_SHUT tests the confirmation of a probe by the last good far word. That those
re-examinations are part of the clear's one event is the model's reading (notes/assumptions/31.md). -/
def Obligations.ClearsAndReexaminationsAtTheSpanController : Prop :=
  ∀ (rest : List SpanEvent) (s : State),
    (∀ d, s.blocked d = true ↔ s.words.own = 0 ∨ ∃ r ∈ s.cond.active, r.withheld.getLsbD d = true) ∧
    (∀ d, s.transit.toSpan = .reexamine d :: rest → ∃ t u : State, exec .blockerReexamination s = .next t ∧
      u = { s with transit := { s.transit with toSpan := rest } } ∧ t = u.reexamine d ∧
      ((s.span d).state = .dark ∧ (s.span d).view = .empty ∧ s.blocked d = true →
        t = u.setSpan d { s.span d with settle := none, view := .notEmpty }) ∧
      ((s.span d).state = .dark ∧ (s.span d).view = .notEmpty ∧ s.blocked d = false →
        t = u.setSpan d { s.span d with settle := some (s.span d).config.settleTime, view := .empty }) ∧
      ((s.span d).state = .await ∧ (s.span d).view = .empty ∧ s.blocked d = true → SpanChange u d
        { s.span d with
          state := .dark, cause := .blocked, asserting := false, settle := none,
          interval := some ((s.span d).config.restartInterval * 1000), probeTimer := none, rampTimer := none,
          request := none, view := .notEmpty, changes := (s.span d).changes + 1 } none t) ∧
      ((s.span d).state ≠ .dark ∧ (s.span d).state ≠ .await ∨
          ((s.span d).view = .empty ↔ s.blocked d = false) ∨ ((s.span d).state = .await ∧ s.blocked d = false) →
        t = u.setSpan d { s.span d with view := if s.blocked d then .notEmpty else .empty })) ∧
    (∀ k w, s.transit.toSpan = .clear k w :: rest → ∃ t u m : State, exec .clearAtSpanController s = .next t ∧
      u = { s with ctrl := u.ctrl, transit := { s.transit with toSpan := rest } } ∧
      (∀ d, u.span d = { s.span d with
        seenDark := (s.span d).seenDark && !decide (k = degreeKey .darkIn d)
        seenShut := (s.span d).seenShut && !decide (k = degreeKey .farShut d)
        seenMiswire := (s.span d).seenMiswire && !decide (k = degreeKey .miswire d) }) ∧
      m = (DegSet.toList w).foldl State.reexamine u ∧
      (k.kind ≠ .darkIn → k.kind ≠ .farShut → t = m) ∧
      (∀ d, k = degreeKey .darkIn d ∨ k = degreeKey .farShut d → ConfirmationTested m d (s.line d).far t))

/-- SETTLE_EXPIRY (R94, R106) and INTERVAL_EXPIRY (R96, R103, R104): the entry into AWAIT, and by state what an interval
expiry does; a timer that is stopped (R84) or has time left (notes/assumptions/2.md) does not expire. That the blocker view
stays as it stands where the entry finds the blocker set empty is the model's choice (notes/assumptions/33.md). -/
def Obligations.SettleAndIntervalExpiries : Prop :=
  ∀ (d : Degree) (s : State),
    let r := s.span d
    let reloaded : Span := { r with honoured := false, interval := some (r.config.restartInterval * 1000) }
    (r.settle ≠ some 0 ∨ r.state ≠ .dark → exec (.settleExpiry d) s = .next s) ∧
    (r.settle = some 0 → r.state = .dark → ∃ t, exec (.settleExpiry d) s = .next t ∧ AwaitEntered s d
      { r with
        state := .await, cause := .settled, settle := none, probeTimer := none, rampTimer := none,
        changes := r.changes + 1 } t) ∧
    (r.interval ≠ some 0 ∨ (r.state ≠ .dark ∧ r.state ≠ .await) → exec (.intervalExpiry d) s = .next s) ∧
    (r.interval = some 0 → r.state = .dark → exec (.intervalExpiry d) s = .next (s.setSpan d reloaded)) ∧
    (r.interval = some 0 → r.state = .await →
      ((s.limits d).autoRestart = true ∧ r.role = .leading → ∃ t, exec (.intervalExpiry d) s = .next t ∧
        SpanChange s d
          { r with
            state := .probe, cause := .interval, honoured := false, asserting := false, settle := none,
            interval := none, probeTimer := some (r.config.probeTime * 100), rampTimer := none, request := none,
            origin := some .automatic, changes := r.changes + 1 } none t) ∧
      ((s.limits d).autoRestart = true ∧ r.role = .trailing →
        exec (.intervalExpiry d) s =
          .next (s.setSpan d { reloaded with asserting := true, request := some 5000 })) ∧
      ((s.limits d).autoRestart = false ∨ r.role = .unknown →
        exec (.intervalExpiry d) s = .next (s.setSpan d reloaded)))

/-- PROBE_TIMER_EXPIRY (R87, R115, R116) by the origin of the probe; REQUEST_TIMER_EXPIRY (R107); RAMP_STEP_EXPIRY (R118):
ramp remaining goes down by the ramp step, at 0 the span is LIT by RAMP_DONE, above it the ramp-step timer starts again
and the exposed sources' ports show their new grants, with the SOURCE reports of the enable lines that change (R77). A
timer that is stopped (R84) or has time left (notes/assumptions/2.md) does not expire. That the blocker view stays as it
stands where an entry into AWAIT finds the blocker set empty is the model's choice (notes/assumptions/33.md). -/
def Obligations.ProbeRequestAndRampTimersExpire : Prop :=
  ∀ (d : Degree) (s : State),
    let r := s.span d
    let ended : Span := { r with
      cause := .probeTimeout, settle := none, interval := some (r.config.restartInterval * 1000), probeTimer := none,
      rampTimer := none, origin := none, changes := r.changes + 1 }
    (r.request ≠ some 0 → exec (.requestTimerExpiry d) s = .next s) ∧
    (r.request = some 0 →
      exec (.requestTimerExpiry d) s = .next (s.setSpan d { r with asserting := false, request := none })) ∧
    (r.probeTimer ≠ some 0 ∨ r.state ≠ .probe → exec (.probeTimerExpiry d) s = .next s) ∧
    (r.probeTimer = some 0 → r.state = .probe → ∃ t, exec (.probeTimerExpiry d) s = .next t ∧
      (r.origin = some .manualFromHeld →
        SpanChange s d { ended with state := .held, interval := none, request := none } none t) ∧
      (r.origin = some .manualFromAwait → AwaitEntered s d { ended with state := .await } t) ∧
      (r.origin = some .automatic →
        (min 15 (r.failed + 1) < r.config.probeLimit →
          AwaitEntered s d { ended with state := .await, failed := min 15 (r.failed + 1) } t) ∧
        (r.config.probeLimit ≤ min 15 (r.failed + 1) → SpanChange s d
          { ended with
            state := .held, cause := .exhausted, failed := min 15 (r.failed + 1), interval := none,
            request := none } none t))) ∧
    (r.rampTimer ≠ some 0 ∨ r.state ≠ .ramp → exec (.rampStepExpiry d) s = .next s) ∧
    (r.rampTimer = some 0 → r.state = .ramp → r.remaining ≤ r.config.rampStep →
      ∃ t, exec (.rampStepExpiry d) s = .next t ∧ SpanChange s d
        { r with
          state := .lit, cause := .rampDone, failed := 0, remaining := 0, settle := none, interval := none,
          probeTimer := none, rampTimer := none, request := none, changes := r.changes + 1 } none t) ∧
    (r.rampTimer = some 0 → r.state = .ramp → r.config.rampStep < r.remaining →
      ∃ t u : State, exec (.rampStepExpiry d) s = .next t ∧
        u = s.setSpan d { r with
          remaining := r.remaining - r.config.rampStep, rampTimer := some r.config.rampInterval } ∧
        SourcesChanged u (fun i => if (s.source i).exposure.degree = some d then
          (s.source i).regranted u.ctrl.spans else s.source i) t)

/-- FAR_WORD_AT_SPAN_CONTROLLER (R88, R95, R107 to R113), in the five steps of R108, each of which reads the word handed on
(R127; notes/assumptions/21.md), and SITE_ORDINAL_CHANGE (R88, R93, R95, R132), which reads the last good far word. -/
def Obligations.AFarWordIsTaken : Prop :=
  ∀ (d : Degree) (s : State),
    let rest : State := { s with transit := { s.transit with fromLine := dropOldest s.transit.fromLine d } }
    let held (r : Span) : Span := { r with
      state := .held, cause := .roleClash, asserting := false, settle := none, interval := none, probeTimer := none,
      rampTimer := none, request := none, changes := r.changes + 1 }
    let probing (r : Span) (c : SpanCause) (h : Bool) : Span := { r with
      state := .probe, cause := c, honoured := h, asserting := false, settle := none, interval := none,
      probeTimer := some (r.config.probeTime * 100), rampTimer := none, request := none, origin := some .automatic,
      changes := r.changes + 1 }
    (∀ w, oldest s.transit.fromLine d = some (.farWord w) → ∃ (t m : State) (v : Span),
      exec (.farWordAtSpanController d) s = .next t ∧ v = { s.span d with role := v.role } ∧
      (v.role = .leading ↔ s.words.own < w.ordinal) ∧ (v.role = .trailing ↔ w.ordinal < s.words.own) ∧
      (v.role = .unknown ↔ w.ordinal = s.words.own) ∧
      (v.state = .await ∧ w.ordinal = s.words.own → SpanChange (rest.setSpan d v) d (held v) none m) ∧
      (v.state = .await ∧ w.ordinal ≠ s.words.own ∧ w.probing = true ∧ v.seenDark = false →
        SpanChange (rest.setSpan d v) d (probing v .farProbe v.honoured) none m) ∧
      (v.state = .await ∧ w.ordinal ≠ s.words.own ∧ ¬(w.probing = true ∧ v.seenDark = false) ∧ w.probeReq = true ∧
          v.role = .leading ∧ (s.limits d).autoRestart = true ∧ v.honoured = false →
        SpanChange (rest.setSpan d v) d (probing v .farRequest true) none m) ∧
      (v.state ≠ .await ∨ (w.ordinal ≠ s.words.own ∧ ¬(w.probing = true ∧ v.seenDark = false) ∧ ¬(w.probeReq = true ∧
          v.role = .leading ∧ (s.limits d).autoRestart = true ∧ v.honoured = false)) →
        m = rest.setSpan d (if w.probing = true ∧ v.asserting = true then
          { v with asserting := false, request := none } else v)) ∧
      ConfirmationTested m d (some w) t) ∧
    (∀ b, oldest s.transit.fromLine d = some (.ordinal b) → ∃ (t m : State) (v : Span),
      exec (.siteOrdinalChange d) s = .next t ∧ m = (if b then rest.reexamine d else rest) ∧
      v = { m.span d with role := v.role } ∧ ((s.line d).far = none → v.role = .unknown) ∧
      (∀ x, (s.line d).far = some x → (v.role = .leading ↔ s.words.own < x.ordinal) ∧
        (v.role = .trailing ↔ x.ordinal < s.words.own) ∧ (v.role = .unknown ↔ x.ordinal = s.words.own)) ∧
      (v.state = .await ∧ s.RoleClash d → SpanChange (m.setSpan d v) d (held v) none t) ∧
      (v.state ≠ .await ∨ ¬s.RoleClash d → t = m.setSpan d v))

/-- RESUME, UNLOCK and PROBE_NOW (R99, R100, R111, R117, R150 to R152). Without a standing claim on exactly the degrees
named, or with a number changed since, CLAIM_LOST with the reason; with a precondition that fails at any degree, the
refusal with one reason per degree; in both the claim is consumed and no span changes. Otherwise every degree named, in
ascending order, goes to DARK or to PROBE. That PROBE_NOW's reading of the blocker set leaves the blocker view as it
stands is the model's choice (notes/assumptions/33.md). That a claim stands until its break is taken at the claim unit, so
that a commit before that passes, is the model's choice (notes/assumptions/36.md). -/
def Obligations.SpanCommitsAreTaken : Prop :=
  ∀ (n t : Byte) (l : List Byte) (m : DegSet) (s : State), NamesDegrees n l m →
    let fresh (c : Standing) : Prop :=
      ∀ r ∈ c.recorded, r.changes = (s.span r.degree).changes ∧ r.touch = look s.cond.touch r.degree
    let dark (c : SpanCause) (d : Degree) : Span := { s.span d with
      state := .dark, cause := c, failed := 0,
      settle := if s.blocked d then none else some (s.span d).config.settleTime,
      interval := some ((s.span d).config.restartInterval * 1000), probeTimer := none, rampTimer := none,
      request := none, view := if s.blocked d then .notEmpty else .empty, changes := (s.span d).changes + 1 }
    let probe (d : Degree) : Span := { s.span d with
      state := .probe, cause := .manual,
      asserting := if (s.span d).state = .await then false else (s.span d).asserting, settle := none,
      interval := none, probeTimer := some (max 5 (min 90 t.toNat) * 100), rampTimer := none, request := none,
      origin := some (if (s.span d).state = .held then .manualFromHeld else .manualFromAwait),
      changes := (s.span d).changes + 1 }
    let changed (u v : State) (f : Degree → Span) : Prop :=
      (∃ d, DegSet.toList m = [d] ∧ SpanChange u d (f d) none v) ∨
        ∃ d e w, DegSet.toList m = [d, e] ∧ SpanChange u d (f d) none w ∧ SpanChange w e (f e) none v
    let keyOpen (d : Degree) : Bool :=
      s.cond.active.any fun r => r.key.kind == .keyOpen && (r.key.degree == some d || r.key.degree == none)
    let refused (code : Byte) (reason : Degree → Byte) : List Byte :=
      code :: BitVec.ofNat 8 (DegSet.toList m).length :: (DegSet.toList m).flatMap fun d =>
        [BitVec.ofNat 8 d.val, reason d]
    let toUnlock (d : Degree) : Byte := if (s.span d).state ≠ .locked then 1 else if keyOpen d then 2 else 0
    let toProbe (d : Degree) : Byte :=
      if ((s.span d).state = .await ∨ (s.span d).state = .held) ∧ s.blocked d = false then 0 else 1
    let spent := s.endClaim .consumed
    (∀ i ∈ [Instr.resume n l, .unlock n l, .probeNow n t l],
      (s.claim.standing = none → exec i s = .next (State.answer s i [0x30, 0x00])) ∧
      (∀ c, s.claim.standing = some c →
        spent = { s with claim := { standing := none, lastEnd := .consumed } } ∧
        (c.degrees ≠ m → exec i s = .next (State.answer spent i [0x30, 0x01])) ∧
        (c.degrees = m → ¬fresh c → exec i s = .next (State.answer spent i [0x30, 0x02])))) ∧
    (∀ c, s.claim.standing = some c → c.degrees = m → fresh c →
      ((∀ d ∈ DegSet.toList m, (s.span d).state = .held) →
        ∃ v : State, exec (.resume n l) s = .next (v.answer (.resume n l) [0x00]) ∧ changed spent v (dark .resume)) ∧
      ((∃ d ∈ DegSet.toList m, (s.span d).state ≠ .held) →
        exec (.resume n l) s = .next (spent.answer (.resume n l)
          (refused 0x31 fun d => if (s.span d).state = .held then 0 else 1))) ∧
      ((∀ d ∈ DegSet.toList m, (s.span d).state = .locked ∧ keyOpen d = false) →
        ∃ v : State, exec (.unlock n l) s = .next (v.answer (.unlock n l) [0x00]) ∧ changed spent v (dark .unlock)) ∧
      ((∃ d ∈ DegSet.toList m, toUnlock d = 1) → (∀ d ∈ DegSet.toList m, toUnlock d ≠ 2) →
        exec (.unlock n l) s = .next (spent.answer (.unlock n l) (refused 0x31 toUnlock))) ∧
      ((∃ d ∈ DegSet.toList m, toUnlock d = 2) →
        exec (.unlock n l) s = .next (spent.answer (.unlock n l) (refused 0x32 toUnlock))) ∧
      ((∀ d ∈ DegSet.toList m, ((s.span d).state = .await ∨ (s.span d).state = .held) ∧ s.blocked d = false) →
        ∃ v : State, exec (.probeNow n t l) s =
            .next (v.answer (.probeNow n t l) [if 5 ≤ t.toNat ∧ t.toNat ≤ 90 then 0x00 else 0x01]) ∧
          changed spent v probe) ∧
      ((∃ d ∈ DegSet.toList m, toProbe d = 1) →
        exec (.probeNow n t l) s = .next (spent.answer (.probeNow n t l) (refused 0x31 toProbe))))

/-! ### The span word unit -/

/-- SPAN_WORD_SEND (R122, R123, R180): six bytes that a far end reads back as the own ordinal, the degree, the state code
and the five flags of this moment. -/
def Obligations.ASpanWordIsSent : Prop :=
  ∀ (d : Degree) (s : State), ∃ (t : State) (l : List Byte) (w : FarWord), exec (.spanWordSend d) s = .next t ∧
    t.line d = { s.line d with sent := some l } ∧ (∀ e, e ≠ d → t.line e = s.line e) ∧ t.words.own = s.words.own ∧
    t = { s with words := t.words } ∧ l.length = 6 ∧ l.head? = some 0xC3 ∧ farWord? l = some w ∧
    w.ordinal = s.words.own ∧ w.degree = d ∧ w.zeros = 0 ∧ w.spare = 0 ∧ w.code = stateCode (s.span d).state ∧
    (w.shut = false ↔ (s.span d).state = .lit ∨ (s.span d).state = .ramp ∨ (s.span d).state = .probe) ∧
    (w.lightSeen = true ↔ ∀ r ∈ s.cond.active, r.key ≠ degreeKey .darkIn d) ∧
    (w.probing = true ↔ (s.span d).state = .probe) ∧ w.probeReq = (s.span d).asserting ∧
    (w.lockout = true ↔ (s.span d).state = .locked)

/-- The bytes that arrive on a supervisory line (R124 to R128, R130, R180): how a word opens, grows and is cut short, and
what its sixth byte does by the class of the word: discarded, where the check code is wrong or the state code is 7,
mismatched, accepted, or a recovery word; and the fields of a word that is not discarded (R180). A command that
carries several bytes takes them one after another (the model's choice, notes/assumptions/22.md). -/
def Obligations.BytesArriveOnASupervisoryLine : Prop :=
  ∀ (d : Degree) (s : State),
    let r := s.line d
    let up (n : Nat) : Nat := min 65535 (n + 1)
    let accepted (u : State) (x : Line) (w : FarWord) : State :=
      ((((u.setLine d
        { x with
          far := some w, lost := false, shut := w.shut, lockout := w.lockout, miswire := false,
          timer := some (s.limits d).lineTimeout, recovery := min 3 (x.recovery + 1) }).lineDecides
            (degreeKey .miswire d) r.miswire false).lineDecides (degreeKey .farShut d) r.shut w.shut).lineDecides
              (degreeKey .farLock d) r.lockout w.lockout).handLine d (.farWord w)
    (∀ b0 b1 b2 b3 b4 b5 : Byte,
      (farWord? [b0, b1, b2, b3, b4, b5] = none ↔ crc8 [b1, b2, b3, b4] ≠ b5 ∨ b3.toNat / 32 = 7) ∧
      ∀ w, farWord? [b0, b1, b2, b3, b4, b5] = some w →
        w.ordinal.toNat = 16 * b1.toNat + b2.toNat / 16 ∧ w.degree.val = b2.toNat / 4 % 4 ∧
        w.zeros.toNat = b2.toNat % 4 ∧ w.code.toNat = b3.toNat / 32 ∧ w.flags.toNat = b3.toNat % 32 ∧ w.spare = b4 ∧
        w.shut = b3.getLsbD 4 ∧ w.lightSeen = b3.getLsbD 3 ∧ w.probing = b3.getLsbD 2 ∧ w.probeReq = b3.getLsbD 1 ∧
        w.lockout = b3.getLsbD 0) ∧
    (∀ b bs idle, exec (.spanWordReceived d (b :: bs) idle) s =
      match exec (.spanWordReceived d [b] false) s with
      | .next t => exec (.spanWordReceived d bs idle) t
      | x => x) ∧
    exec (.spanWordReceived d [] false) s = .next s ∧
    (r.receiving = none →
      exec (.spanWordReceived d [] true) s = .next s ∧
      exec (.spanWordReceived d [0xC3] false) s = .next (s.setLine d { r with receiving := some [0xC3] }) ∧
      ∀ b : Byte, b ≠ 0xC3 → exec (.spanWordReceived d [b] false) s = .next s) ∧
    (∀ l, r.receiving = some l →
      exec (.spanWordReceived d [] true) s =
        .next (s.setLine d { r with receiving := none, recovery := 0, discarded := up r.discarded }) ∧
      (∀ b, l.length < 5 →
        exec (.spanWordReceived d [b] false) s = .next (s.setLine d { r with receiving := some (l ++ [b]) })) ∧
      (∀ b, l.length = 5 →
        (farWord? (l ++ [b]) = none → exec (.spanWordReceived d [b] false) s =
          .next (s.setLine d { r with receiving := none, recovery := 0, discarded := up r.discarded })) ∧
        (∀ w, farWord? (l ++ [b]) = some w → r.expected ≠ 0 → r.expected ≠ w.ordinal →
          (r.lost = true → exec (.spanWordReceived d [b] false) s =
            .next (s.setLine d { r with receiving := none, recovery := 0, mismatched := up r.mismatched })) ∧
          (r.lost = false → exec (.spanWordReceived d [b] false) s = .next ((s.setLine d
            { r with
              receiving := none, recovery := 0, mismatched := up r.mismatched,
              timer := some (s.limits d).lineTimeout, miswire := true }).lineDecides
                (degreeKey .miswire d) r.miswire true))) ∧
        (∀ w, farWord? (l ++ [b]) = some w → r.expected = 0 ∨ r.expected = w.ordinal →
          (r.lost = false → exec (.spanWordReceived d [b] false) s =
            .next (accepted s { r with receiving := none, accepted := up r.accepted } w)) ∧
          (r.lost = true → r.recovery + 1 < 3 → exec (.spanWordReceived d [b] false) s =
            .next (s.setLine d
              { r with receiving := none, accepted := up r.accepted, recovery := r.recovery + 1 })) ∧
          (r.lost = true → 3 ≤ r.recovery + 1 → exec (.spanWordReceived d [b] false) s =
            .next (accepted (s.clearDue (degreeKey .lineLost d) .normal)
              { r with receiving := none, accepted := up r.accepted, recovery := 3 } w)))))

/-- A raise (R19, R22) and a clear (R21, R22) at the condition unit, whichever rule decides them: the new pending record
and what goes to the hazard map and the claim unit; the clear deferred while the record is pending, else the record gone
and what goes to the report queue, the grant unit, the span controller and the claim unit, in this order; and directly
after that clear the raise of a contact that waited for it (R22). LINE_TIMER_EXPIRY (R129), and what the span word unit
hands on when a condition it decides changes (R128): a raise, a clear with cause NORMAL, or nothing; a line timer that is
stopped or has time left does not expire (notes/assumptions/2.md). -/
def Obligations.RaisesAndClearsAtTheConditionUnit : Prop :=
  (∀ (k : Key) (c : ClearCause) (s : State),
    (s.record? k = none →
      (s.raise k).cond.active = s.cond.active ++
        [{ key := k, raisedAt := s.now, pending := true, clearDue := none, matched := [], withheld := 0 }] ∧
      (∀ d, look (s.raise k).cond.touch d =
        if k.degree = none ∨ k.degree = some d then look s.cond.touch d + 1 else look s.cond.touch d) ∧
      s.raise k = { s with
        cond := { s.cond with active := (s.raise k).cond.active, touch := (s.raise k).cond.touch }
        map := { s.map with queue := s.map.queue ++ [.key k] }
        transit := { s.transit with toClaim := s.transit.toClaim ++ [.notice (.condition k.degree)] } } ∧
      s.clearDue k c = s) ∧
    (∀ r, s.record? k = some r →
      (r.pending = true ∧ r.clearDue ≠ none → s.raise k = { s with cond := { s.cond with
        active := s.cond.active.map fun x => if x.key = k then { x with clearDue := none } else x } }) ∧
      (r.pending = false ∨ r.clearDue = none → s.raise k = s) ∧
      (r.pending = true → s.clearDue k c = { s with cond := { s.cond with
        active := s.cond.active.map fun x => if x.key = k then { x with clearDue := some c } else x } }) ∧
      (r.pending = false → ∃ u : State,
        (∀ d, look u.cond.touch d =
          if k.degree = none ∨ k.degree = some d then look s.cond.touch d + 1 else look s.cond.touch d) ∧
        u = { s with
          cond := { s.cond with
            active := s.cond.active.filter fun x => x.key ≠ k
            touch := u.cond.touch }
          transit := { s.transit with
            reports := s.transit.reports ++ [{ report := .cleared k s.now c, afterSpan := false }]
            toGrant := s.transit.toGrant ++ [.clear k]
            toSpan := s.transit.toSpan ++ [.clear k r.withheld]
            toClaim := s.transit.toClaim ++ [.notice (.condition k.degree)] } } ∧
        (∀ n x, k.detail = some (.contact n) → (s.contact n).waiting = some x →
          s.clearDue k c = (u.setContact n { s.contact n with waiting := none }).raise x) ∧
        ((∀ n, k.detail = some (.contact n) → (s.contact n).waiting = none) → s.clearDue k c = u)))) ∧
  ∀ (d : Degree) (s : State),
    ((s.line d).timer ≠ some 0 → exec (.lineTimerExpiry d) s = .next s) ∧
    ((s.line d).timer = some 0 → ∃ u : State, u = s.setLine d { s.line d with lost := true, recovery := 0, timer := none } ∧
      ((s.line d).lost = false → exec (.lineTimerExpiry d) s = .next (u.raise (degreeKey .lineLost d))) ∧
      ((s.line d).lost = true → exec (.lineTimerExpiry d) s = .next u)) ∧
    (∀ k, s.lineDecides k true true = s ∧ s.lineDecides k false false = s ∧
      s.lineDecides k false true = s.raise k ∧ s.lineDecides k true false = s.clearDue k .normal)

/-! ### Configuration, profiles and numbering -/

/-- SET_CHANNEL (R5), SET_SPAN (R72, R86), SET_SITE (R132), SET_PROFILE (R136) and SELECT_PROFILE (R139): every value
stored is the value given clamped to its range, CLAMPED is answered exactly where one was, and nothing else changes but
what the rule names: for SET_SPAN the grants of the degree's exposed sources and their SOURCE reports (R77). That
hysteresis widths, ramp depth and ramp step are read unsigned is the model's choice (R177; notes/assumptions/37.md). -/
def Obligations.ConfigurationIsStored : Prop :=
  ∀ s : State,
    (∀ (a : Byte) (x y : Half) (c : ChannelNo), a = BitVec.ofNat 8 c.val → ∃ t : State,
      exec (.setChannel a x y) s = .next (t.answer (.setChannel a x y)
        [if x.toNat ≤ 255 ∧ -5000 ≤ y.toInt ∧ y.toInt ≤ 5000 then 0x00 else 0x01]) ∧
      look t.front.calib c = { dark := min 255 x.toNat, gain := max (-5000) (min 5000 y.toInt) } ∧
      (∀ e, e ≠ c → look t.front.calib e = look s.front.calib e) ∧
      t = { s with front := { s.front with calib := t.front.calib } }) ∧
    (∀ (a : Byte) (g : RawSpanConfig) (d : Degree), a = BitVec.ofNat 8 d.val → ∃ (t : State) (v : SpanConfig),
      v = { hazardLimit := max (-1000) (min 2000 g.hazardLimit.toInt)
            restartInterval := max 20 (min 300 g.restartInterval.toNat)
            probeTime := max 5 (min 30 g.probeTime.toNat)
            probeLimit := max 1 (min 15 g.probeLimit.toNat)
            settleTime := max 100 (min 5000 g.settleTime.toNat)
            rampDepth := min 3000 g.rampDepth.toNat
            rampStep := max 10 (min 1000 g.rampStep.toNat)
            rampInterval := max 20 (min 1000 g.rampInterval.toNat) } ∧
      exec (.setSpan a g) s = .next (t.answer (.setSpan a g)
        [if v = { hazardLimit := g.hazardLimit.toInt, restartInterval := g.restartInterval.toNat,
                  probeTime := g.probeTime.toNat, probeLimit := g.probeLimit.toNat,
                  settleTime := g.settleTime.toNat, rampDepth := g.rampDepth.toNat, rampStep := g.rampStep.toNat,
                  rampInterval := g.rampInterval.toNat } then 0x00 else 0x01]) ∧
      SourcesChanged (s.setSpan d { s.span d with config := v }) (fun i =>
        if (s.source i).exposure.degree = some d then (s.source i).regranted t.ctrl.spans else s.source i) t) ∧
    (∀ o a b c e : Half, ∃ t : State,
      exec (.setSite o a b c e) s = .next (t.answer (.setSite o a b c e)
        [if o.toNat < 4096 ∧ a.toNat < 4096 ∧ b.toNat < 4096 ∧ c.toNat < 4096 ∧ e.toNat < 4096 then 0x00 else 0x01]) ∧
      t.words.own.toNat = min 4095 o.toNat ∧
      (∀ d h, [a, b, c, e][d.val]? = some h → (t.line d).expected.toNat = min 4095 h.toNat) ∧
      (∀ d, t.line d = { s.line d with expected := (t.line d).expected }) ∧
      (t.words.own = s.words.own → t = { s with words := t.words }) ∧
      (t.words.own ≠ s.words.own → t = { s with
        words := t.words
        transit := { s.transit with fromLine := s.transit.fromLine ++ (List.finRange 4).map fun d =>
          (d, .ordinal (decide (s.words.own = 0 ∨ t.words.own = 0))) } })) ∧
    (∀ (p a b m : Byte) (l : RawLimits) (n : ProfileNo) (d : Degree) (x : Bool) (k : ClassMask),
      p = BitVec.ofNat 8 n.val → a = BitVec.ofNat 8 d.val → b = (if x then 1 else 0) → m = k.setWidth 8 →
      ∃ (t : State) (v : Limits), v =
        { darkLevel := max (-5000) (min 0 l.darkLevel.toInt), darkHyst := max 50 (min 600 l.darkHyst.toNat),
          darkRaise := max 1 (min 64 l.darkRaise.toNat), darkClear := max 1 (min 4000 l.darkClear.toNat),
          reflectLimit := max (-4000) (min (-800) l.reflectLimit.toInt),
          reflectHyst := max 50 (min 600 l.reflectHyst.toNat),
          reflectRaise := max 1 (min 64 l.reflectRaise.toNat),
          reflectClear := max 1 (min 4000 l.reflectClear.toNat),
          outFloor := max (-3000) (min 1000 l.outFloor.toInt), pumpLimit := max (-3000) (min 2000 l.pumpLimit.toInt),
          pumpHyst := max 50 (min 600 l.pumpHyst.toNat), pumpRaise := max 1 (min 64 l.pumpRaise.toNat),
          pumpClear := max 1 (min 4000 l.pumpClear.toNat), lineTimeout := max 10 (min 100 l.lineTimeout.toNat),
          autoRestart := x } ∧
        exec (.setProfile p a l b m) s = .next (t.answer (.setProfile p a l b m)
          [if v =
              { darkLevel := l.darkLevel.toInt, darkHyst := l.darkHyst.toNat, darkRaise := l.darkRaise.toNat,
                darkClear := l.darkClear.toNat, reflectLimit := l.reflectLimit.toInt,
                reflectHyst := l.reflectHyst.toNat, reflectRaise := l.reflectRaise.toNat,
                reflectClear := l.reflectClear.toNat, outFloor := l.outFloor.toInt, pumpLimit := l.pumpLimit.toInt,
                pumpHyst := l.pumpHyst.toNat, pumpRaise := l.pumpRaise.toNat, pumpClear := l.pumpClear.toNat,
                lineTimeout := l.lineTimeout.toNat, autoRestart := x } then 0x00 else 0x01]) ∧
        look (look t.store.profiles n).limits d = v ∧ (look t.store.profiles n).mask = k ∧
        (∀ e, e ≠ d → look (look t.store.profiles n).limits e = look (look s.store.profiles n).limits e) ∧
        (∀ q, q ≠ n → look t.store.profiles q = look s.store.profiles q) ∧
        t = { s with store := { s.store with profiles := t.store.profiles } }) ∧
    (∀ (p : Byte) (n : ProfileNo), p = BitVec.ofNat 8 n.val →
      (n = s.store.active → exec (.selectProfile p) s = .next (s.answer (.selectProfile p) [0x00])) ∧
      (n ≠ s.store.active → exec (.selectProfile p) s = .next (State.answer
        { s with
          store := { s.store with active := n }
          map := { s.map with queue := s.map.queue ++ [.reevaluate] }
          transit := { s.transit with
            zeroings := s.transit.zeroings + 1, toClaim := s.transit.toClaim ++ [.breakBy .profile] } }
        (.selectProfile p) [0x00])))

/-! ### Claims -/

/-- CLAIM (R146), and what ends a claim: CLAIM_NOTICE (R147), CLAIM_BREAK (R148) and CLAIM_LIFE_EXPIRY (R149), the last
only when none of the 10 s are left, so that a claim which replaced another is not ended by the other's expiry
(notes/assumptions/2.md). An ABSENT claim is not touched. A notice waits for every break that was handed before it, so that
what a switch or a resync goes on to cause finds the claim already ABSENT (R148); that every later notice waits, whatever
its cause, and that notices and breaks are ordered by nothing else, is the model's reading (notes/assumptions/32.md). -/
def Obligations.ClaimsStandAndEnd : Prop :=
  ∀ s : State,
    (∀ (n : Byte) (l : List Byte) (m : DegSet), NamesDegrees n l m → ∃ t : State,
      exec (.claim n l) s =
        .next (t.answer (.claim n l) (0x00 :: (DegSet.toList m).flatMap s.snapshotBytes)) ∧
      (∀ d, (s.snapshotBytes d).length = 57) ∧
      t.claim.standing = some
        { degrees := m
          recorded := (DegSet.toList m).map fun d =>
            { degree := d, changes := (s.span d).changes, touch := look s.cond.touch d }
          life := 10000 } ∧
      t.claim.lastEnd = (if s.claim.standing = none then s.claim.lastEnd else .replaced) ∧
      t = { s with claim := t.claim }) ∧
    (∀ x, (∀ a b, s.transit.toClaim = a ++ .notice x :: b → ∃ c, .breakBy c ∈ a) → exec (.claimNotice x) s = .next s) ∧
    (∀ x a b, s.transit.toClaim = a ++ .notice x :: b → (∀ y ∈ a, ∃ n, y = .notice n ∧ n ≠ x) → ∃ u : State,
      u = { s with transit := { s.transit with toClaim := a ++ b } } ∧
      (s.claim.standing = none → exec (.claimNotice x) s = .next u) ∧
      (∀ c d, s.claim.standing = some c → x = .spanChange d →
        exec (.claimNotice x) s = .next (if c.degrees.getLsbD d then
          { u with claim := { standing := none, lastEnd := .spanChange } } else u)) ∧
      (∀ c d, s.claim.standing = some c → x = .condition (some d) →
        exec (.claimNotice x) s = .next (if c.degrees.getLsbD d then
          { u with claim := { standing := none, lastEnd := .condition } } else u)) ∧
      (∀ c, s.claim.standing = some c → x = .condition none →
        exec (.claimNotice x) s = .next { u with claim := { standing := none, lastEnd := .condition } })) ∧
    (∀ x, .breakBy x ∉ s.transit.toClaim → exec (.claimBreak x) s = .next s) ∧
    (∀ x e a b, s.transit.toClaim = a ++ .breakBy x :: b → .breakBy x ∉ a → (x, e) ∈
        [(BreakCause.profile, EndCause.profile), (.resync, .resync), (.softReset, .reset)] →
      ∃ u : State, u = { s with transit := { s.transit with toClaim := a ++ b } } ∧
        (s.claim.standing = none → exec (.claimBreak x) s = .next u) ∧
        (s.claim.standing ≠ none →
          exec (.claimBreak x) s = .next { u with claim := { standing := none, lastEnd := e } })) ∧
    (s.claim.standing = none → exec .claimLifeExpiry s = .next s) ∧
    (∀ c, s.claim.standing = some c →
      (c.life ≠ 0 → exec .claimLifeExpiry s = .next s) ∧
      (c.life = 0 → exec .claimLifeExpiry s = .next { s with claim := { standing := none, lastEnd := .expired } }))

/-! ### The capture unit -/

/-- HISTORY_SAMPLE (R155, R159), CAPTURE_TRIGGER (R156 to R158, R160) and RELEASE_CAPTURE (R162). Where one sample
completes both buffers the one triggered first completes first, which the model reads from the latest trigger's buffer
(notes/assumptions/20.md). -/
def Obligations.CapturesAreFilledAndReleased : Prop :=
  ∀ s : State,
    (∀ d x, oldest s.transit.samples d = some x → ∃ t : State, exec (.historySample d) s = .next t ∧
      look t.capture.rings d = (look s.capture.rings d ++ [x]).drop ((look s.capture.rings d).length - 63) ∧
      (∀ e, e ≠ d → look t.capture.rings e = look s.capture.rings e) ∧
      (∀ b tr, look s.capture.buffers b = .filling tr → tr.degree = d → look t.capture.buffers b =
        if tr.post.length < 63 then .filling { tr with post := tr.post ++ [x] }
        else .complete { tr with post := tr.post ++ [x] }) ∧
      (∀ b, (∀ tr, look s.capture.buffers b = .filling tr → tr.degree ≠ d) →
        look t.capture.buffers b = look s.capture.buffers b) ∧
      ((∀ b tr, look s.capture.buffers b = .filling tr → tr.degree = d → tr.post.length < 63) →
        t.capture.pointer = s.capture.pointer ∧ t.transit.reports = s.transit.reports) ∧
      (∀ b c tr, b ≠ c → look s.capture.buffers b = .filling tr → tr.degree = d → 63 ≤ tr.post.length →
        (∀ v, look s.capture.buffers c = .filling v → v.degree = d → v.post.length < 63) →
        t.capture.pointer = c ∧ t.transit.reports = s.transit.reports ++
          [{ report := .captureReady b d tr.key tr.at_ tr.pre.length s.now, afterSpan := false }]) ∧
      (∀ b c tr v, b ≠ c → s.capture.latest = c → look s.capture.buffers b = .filling tr →
        look s.capture.buffers c = .filling v → tr.degree = d → v.degree = d → 63 ≤ tr.post.length →
        63 ≤ v.post.length →
        t.capture.pointer = b ∧ t.transit.reports = s.transit.reports ++
          [{ report := .captureReady b d tr.key tr.at_ tr.pre.length s.now, afterSpan := false },
            { report := .captureReady c d v.key v.at_ v.pre.length s.now, afterSpan := false }]) ∧
      t.capture.latest = s.capture.latest ∧
      t = { s with
        capture := t.capture
        transit := { s.transit with
          samples := dropOldest s.transit.samples d, reports := t.transit.reports } }) ∧
    (∀ d k, oldest s.transit.triggers d = some k → ∃ u : State,
      u = { s with transit := { s.transit with triggers := dropOldest s.transit.triggers d } } ∧
      (∀ b c, (look s.capture.buffers b = .empty ∧ (s.capture.pointer = b ∨
          (s.capture.pointer = c ∧ c ≠ b ∧ look s.capture.buffers c ≠ .empty))) →
        exec (.captureTrigger d) s = .next { u with capture := { s.capture with
          buffers := put s.capture.buffers b
            (.filling { degree := d, key := k, at_ := s.now, pre := look s.capture.rings d, post := [] })
          latest := b } }) ∧
      ((∀ b, look s.capture.buffers b ≠ .empty) → exec (.captureTrigger d) s = .next { u with
        transit := { u.transit with reports :=
          s.transit.reports ++ [{ report := .captureSkipped d k s.now, afterSpan := false }] } })) ∧
    (∀ (a : Byte) (b : BufferNo), a = BitVec.ofNat 8 b.val →
      (∀ tr, look s.capture.buffers b = .complete tr → exec (.releaseCapture a) s = .next (State.answer
        { s with capture := { s.capture with buffers := put s.capture.buffers b .empty } }
        (.releaseCapture a) [0x00])) ∧
      ((∀ tr, look s.capture.buffers b ≠ .complete tr) →
        exec (.releaseCapture a) s = .next (s.answer (.releaseCapture a) [0x22])))

/-! ### The host link unit -/

/-- REPORT_ENQUEUE (R171, R174), READ_REPORTS (R172, R174) and SET_NOTIFY (R173, R174), and the fourteen bytes of each kind
of record (R186), where the trigger age is the low byte of the age, by the model's choice (notes/assumptions/19.md). The
report of a category that is taken is the oldest of the category in transit; a SOURCE report of a span state change waits
for the SPAN reports handed before it (R83), and the reports of different categories have no other order, which is the
model's reading (notes/assumptions/6.md). -/
def Obligations.ReportsAreQueuedAndRead : Prop :=
  let category (r : Report) : Category :=
    match r with
    | .raised .. => .condition
    | .cleared .. => .condition
    | .span .. => .span
    | .start _ => .span
    | .source .. => .source
    | .captureReady .. => .capture
    | .captureSkipped .. => .capture
  (∀ r : Report, r.bytes = match r with
    | .raised k at_ n p => [1] ++ wordBytes at_ ++ keyBytes k ++
        [0, BitVec.ofNat 8 n, (p.map fun e => BitVec.ofNat 8 e.val).getD 0xFF, 0xFF, 0, 0]
    | .cleared k at_ c => [1] ++ wordBytes at_ ++ keyBytes k ++
        [1, 0xFF, 0xFF,
          match c with
          | .normal => 0
          | .spanDark => 1
          | .reconfigured => 2,
          0, 0]
    | .span d o n c at_ => [2] ++ wordBytes at_ ++
        [BitVec.ofNat 8 d.val, stateByte o, stateByte n, causeByte c, 0, 0, 0, 0, 0]
    | .source i (some v) _ at_ => [3] ++ wordBytes at_ ++ [BitVec.ofNat 8 i.val, 1] ++ halfBytes (BitVec.ofInt 16 v) ++
        [0, 0, 0, 0, 0]
    | .source i none why at_ => [3] ++ wordBytes at_ ++ [BitVec.ofNat 8 i.val, 0, 0x80, 0x00, why.setWidth 8, 0, 0, 0, 0]
    | .captureReady b d k trigger n at_ => [4] ++ wordBytes at_ ++ [0, BitVec.ofNat 8 b.val, BitVec.ofNat 8 d.val] ++
        keyBytes k ++ [BitVec.ofNat 8 n, BitVec.ofNat 8 (at_ - trigger).toNat, 0]
    | .captureSkipped d k at_ => [4] ++ wordBytes at_ ++ [1, 0xFF, BitVec.ofNat 8 d.val] ++ keyBytes k ++ [0, 0, 0]
    | .start .powerOn => [5, 0, 0, 0, 0, 0, 0, 0, 0, 0, 0, 0, 0, 0]
    | .start .soft => [5, 0, 0, 0, 0, 1, 0, 0, 0, 0, 0, 0, 0, 0]) ∧
  ∀ s : State,
    (∀ c, (∀ h ∈ s.transit.reports, category h.report ≠ c) → exec (.reportEnqueue c) s = .next s) ∧
    (∀ c h a b, s.transit.reports = a ++ h :: b → category h.report = c → (∀ x ∈ a, category x.report ≠ c) →
      h.afterSpan = true → (∃ x ∈ a, category x.report = .span) → exec (.reportEnqueue c) s = .next s) ∧
    (∀ c r after a b, s.transit.reports = a ++ { report := r, afterSpan := after } :: b → category r = c →
      (∀ x ∈ a, category x.report ≠ c) → after = false ∨ (∀ x ∈ a, category x.report ≠ .span) → ∃ u : State,
      u = { s with transit := { s.transit with reports := a ++ b } } ∧
      (s.link.reports.length < 32 → exec (.reportEnqueue c) s = .next { u with link := { s.link with
        reports := s.link.reports ++ [r], attention := attentionOf (s.link.reports ++ [r]) s.link.notify } }) ∧
      (32 ≤ s.link.reports.length →
        exec (.reportEnqueue c) s = .next { u with link := { s.link with overflow := true } })) ∧
    exec .readReports s = .next (State.answer
      { s with link := { s.link with
        reports := s.link.reports.drop 8, overflow := false,
        attention := attentionOf (s.link.reports.drop 8) s.link.notify } }
      .readReports
      ([0x00, if s.link.overflow then 1 else 0, BitVec.ofNat 8 (min 8 s.link.reports.length)] ++
        (s.link.reports.take 8).flatMap Report.bytes)) ∧
    (∀ r ∈ s.link.reports, r.bytes.length = 14) ∧
    (∀ (a : Byte) (m : BitVec 4), a = m.setWidth 8 → exec (.setNotify a) s = .next (State.answer
      { s with link := { s.link with notify := m, attention := attentionOf s.link.reports m } }
      (.setNotify a) [0x00, a])) ∧
    (∀ m, attentionOf s.link.reports m = true ↔ ∃ r ∈ s.link.reports, m.getLsbD
      (match category r with
        | .condition => 0
        | .span => 1
        | .source => 2
        | .capture => 3) = true)

/-- The receive framer (R165 to R167, R178, R179): the phases, a character error, a resync, the gap timer; and every frame
sent as R178 lays it out, into a framer in HUNT, is handed on as the frame it is, while one with another check code is
discarded. A gap timer that is stopped or has time left does not expire (notes/assumptions/2.md). -/
def Obligations.FramesAreReceived : Prop :=
  ∀ s : State,
    let hunt : HostLink := { s.link with phase := .hunt, gap := none }
    (∀ b, exec (.hostByteReceived b) s = .next (s.frameByte b)) ∧
    (s.link.phase = .hunt →
      exec (.hostByteReceived 0xA5) s = .next { s with link := { s.link with phase := .length, gap := some 5 } } ∧
      (∀ b : Byte, b ≠ 0xA5 → exec (.hostByteReceived b) s = .next s) ∧
      exec .characterError s = .next s) ∧
    (s.link.phase = .length → ∀ b : Byte,
      (2 ≤ b.toNat ∧ b.toNat ≤ 122 → exec (.hostByteReceived b) s =
        .next { s with link := { s.link with phase := .body b [], gap := some 5 } }) ∧
      (b.toNat < 2 ∨ 122 < b.toNat → exec (.hostByteReceived b) s = .next { s with link := hunt })) ∧
    (∀ n l b, s.link.phase = .body n l → l.length + 1 < n.toNat + 2 → exec (.hostByteReceived b) s =
      .next { s with link := { s.link with phase := .body n (l ++ [b]), gap := some 5 } }) ∧
    (s.link.phase ≠ .hunt → exec .characterError s = .next { s with link := hunt }) ∧
    exec .resync s = .next { s with
      link := hunt, transit := { s.transit with toClaim := s.transit.toClaim ++ [.breakBy .resync] } } ∧
    (s.link.gap ≠ some 0 → exec .gapTimerExpiry s = .next s) ∧
    (s.link.gap = some 0 → exec .gapTimerExpiry s = .next { s with link := hunt }) ∧
    (∀ (f : Frame) (x y : Byte), s.link.phase = .hunt → f.payload.length ≤ 120 →
      (frameBytes f.kind f.tag f.payload).foldl State.frameByte s =
        { s with link := hunt, transit := { s.transit with frames := s.transit.frames ++ [f] } } ∧
      ([x, y] ≠ halfBytes (crc16 (BitVec.ofNat 8 (f.payload.length + 2) :: f.kind :: f.tag :: f.payload)) →
        ([0xA5, BitVec.ofNat 8 (f.payload.length + 2), f.kind, f.tag] ++ f.payload ++ [x, y]).foldl
          State.frameByte s = { s with link := hunt }))

/-- FRAME_COMPLETE, REPLY_SENT and RESET_PART (R168 to R170, R176): by the state of the two slots, the frame placed in
hand and checked, kept waiting, answered BUSY, or discarded; and what the last byte of a reply lets follow. That a BUSY
reply leaves the list alone is read from R170 (notes/assumptions/9.md); the soft reset is stated apart. -/
def Obligations.FramesArePlacedAndReplied : Prop :=
  ∀ s : State,
    let busy := (s.link.replies.filter fun r => r.busy).length
    let reply (f : Frame) (l : List Byte) : List Byte := frameBytes (f.kind + 0x80) f.tag l
    let placed (u : State) (f : Frame) (t : State) : Prop :=
      (checkRequest f.kind f.payload = .badKind → t = { u with link := { u.link with
        hand := some { frame := f, answered := true }
        replies := u.link.replies ++ [{ busy := false, bytes := reply f [0x10] }] } }) ∧
      (checkRequest f.kind f.payload = .badLength → t = { u with link := { u.link with
        hand := some { frame := f, answered := true }
        replies := u.link.replies ++ [{ busy := false, bytes := reply f [0x11] }] } }) ∧
      (∀ i, checkRequest f.kind f.payload = .request i →
        t = { u with link := { u.link with hand := some { frame := f, answered := false } } } ∧ t.awaits = some i)
    (∀ f rest, s.transit.frames = f :: rest → ∃ t u : State, exec .frameComplete s = .next t ∧
      u = { s with transit := { s.transit with frames := rest } } ∧
      (s.link.hand = none → placed u f t) ∧
      (∀ h, s.link.hand = some h →
        (checkRequest h.frame.kind h.frame.payload = .request .resetPart → t = u) ∧
        (checkRequest h.frame.kind h.frame.payload ≠ .request .resetPart →
          (s.link.waiting = none → t = { u with link := { s.link with waiting := some f } }) ∧
          (s.link.waiting ≠ none → busy < 8 → t = { u with link := { s.link with
            replies := s.link.replies ++ [{ busy := true, bytes := reply f [0x40] }] } }) ∧
          (s.link.waiting ≠ none → 8 ≤ busy → t = u)))) ∧
    (∀ r rest, s.link.replies = r :: rest → ∃ u : State, u = { s with link := { s.link with replies := rest } } ∧
      (r.busy = true → exec .replySent s = .next u) ∧
      (∀ h, r.busy = false → s.link.hand = some h →
        checkRequest h.frame.kind h.frame.payload ≠ .request .resetPart →
        (s.link.waiting = none → exec .replySent s = .next { u with link := { u.link with hand := none } }) ∧
        (∀ f, s.link.waiting = some f → ∃ t, exec .replySent s = .next t ∧
          placed { u with link := { u.link with hand := none, waiting := none } } f t))) ∧
    (∀ h, s.link.hand = some h → s.awaits = some .resetPart → exec .resetPart s = .next { s with link := { s.link with
      hand := some { h with answered := true }
      replies := s.link.replies ++ [{ busy := false, bytes := reply h.frame [0x00] }] } })

/-! ### What every step keeps -/

/-- The state after a power-on reset is safe in every respect below. -/
def Obligations.TheResetStateIsSafe : Prop :=
  State.reset.CollectionsSafe ∧ State.reset.PortsSafe ∧ State.reset.SpansSafe ∧ LinkSafe State.reset.link ∧
    State.reset.LinesSafe ∧ CaptureSafe State.reset.capture ∧ State.reset.ConditionsSafe ∧ State.reset.ClaimSafe ∧
    State.reset.RangesSafe

/-- Every step keeps the restriction collections safe (R65, R67). -/
def Obligations.EveryStepKeepsCollectionsSafe : Prop :=
  ∀ s t : State, s.CollectionsSafe → step s = .next t → t.CollectionsSafe

/-- Every step keeps every port showing the grant that its record and the spans give (R72 to R76): no order of events
lets a source launch more than its terms allow. -/
def Obligations.EveryStepKeepsPortsSafe : Prop :=
  ∀ s t : State, s.PortsSafe → step s = .next t → t.PortsSafe

/-- Every step keeps every span record safe (R79 to R87, R94, R96, R107, R118). -/
def Obligations.EveryStepKeepsSpansSafe : Prop :=
  ∀ s t : State, s.SpansSafe → step s = .next t → t.SpansSafe

/-- Every step keeps the host link unit safe (R165, R166, R168, R170, R171, R174). -/
def Obligations.EveryStepKeepsTheLinkSafe : Prop :=
  ∀ s t : State, LinkSafe s.link → step s = .next t → LinkSafe t.link

/-- Every step keeps the lines, the captures, the conditions, the claim and every configured and measured value safe
(R4, R7, R12, R18, R30, R59, R85, R124, R130, R134, R144, R155, R156). -/
def Obligations.EveryStepKeepsTheRecordsSafe : Prop :=
  ∀ s t : State, step s = .next t →
    (s.LinesSafe → t.LinesSafe) ∧ (CaptureSafe s.capture → CaptureSafe t.capture) ∧
    (s.ConditionsSafe → t.ConditionsSafe) ∧ (s.ClaimSafe → t.ClaimSafe) ∧ (s.RangesSafe → t.RangesSafe)
end

