-- ==== Sys2Proof/Laws/State.lean ====
section
/-! SUPPORT. Reading a field after a named update: one lemma per field and update, each true by unfolding, and reading one
place of a table after a write. No proof needs to unfold a record update. -/

namespace Sys2Proof

/-! ### Tables -/

@[simp] theorem look_put_same {α : Type} {n : Nat} (v : Vector α n) (i : Fin n) (x : α) : look (put v i x) i = x := by
  simp [look, put]

theorem look_put_ne {α : Type} {n : Nat} (v : Vector α n) (x : α) {i j : Fin n} (h : i ≠ j) :
    look (put v i x) j = look v j := by
  have h' : i.val ≠ j.val := fun e => h (Fin.ext e)
  simp [look, put, h']

theorem look_put {α : Type} {n : Nat} (v : Vector α n) (i j : Fin n) (x : α) :
    look (put v i x) j = if i = j then x else look v j := by
  by_cases h : i = j
  · subst h; simp
  · simp [h, look_put_ne v x h]

@[simp] theorem look_ofFn {α : Type} {n : Nat} (f : Fin n → α) (i : Fin n) : look (Vector.ofFn f) i = f i := by
  simp [look]

@[simp] theorem look_replicate {α : Type} {n : Nat} (x : α) (i : Fin n) : look (Vector.replicate n x) i = x := by
  simp [look]

/-- A table is what its places hold. -/
theorem look_ext {α : Type} {n : Nat} {v w : Vector α n} (h : ∀ i, look v i = look w i) : v = w := by
  ext i hi
  exact h ⟨i, hi⟩

@[simp] theorem put_look {α : Type} {n : Nat} (v : Vector α n) (i : Fin n) : put v i (look v i) = v := by
  apply look_ext
  intro j
  rw [look_put]
  split
  · next h => rw [h]
  · rfl

end Sys2Proof

namespace Sys2Proof.Machine

variable (s : State)


/-! ### setSpan -/

@[simp] theorem State.setSpan_now (d : Degree) (r : Span) :
    (s.setSpan d r).now = s.now := rfl
@[simp] theorem State.setSpan_front (d : Degree) (r : Span) :
    (s.setSpan d r).front = s.front := rfl
@[simp] theorem State.setSpan_cond (d : Degree) (r : Span) :
    (s.setSpan d r).cond = s.cond := rfl
@[simp] theorem State.setSpan_map (d : Degree) (r : Span) :
    (s.setSpan d r).map = s.map := rfl
@[simp] theorem State.setSpan_grant (d : Degree) (r : Span) :
    (s.setSpan d r).grant = s.grant := rfl
@[simp] theorem State.setSpan_ctrl (d : Degree) (r : Span) :
    (s.setSpan d r).ctrl = { spans := put s.ctrl.spans d r } := rfl
@[simp] theorem State.setSpan_words (d : Degree) (r : Span) :
    (s.setSpan d r).words = s.words := rfl
@[simp] theorem State.setSpan_store (d : Degree) (r : Span) :
    (s.setSpan d r).store = s.store := rfl
@[simp] theorem State.setSpan_claim (d : Degree) (r : Span) :
    (s.setSpan d r).claim = s.claim := rfl
@[simp] theorem State.setSpan_capture (d : Degree) (r : Span) :
    (s.setSpan d r).capture = s.capture := rfl
@[simp] theorem State.setSpan_link (d : Degree) (r : Span) :
    (s.setSpan d r).link = s.link := rfl
@[simp] theorem State.setSpan_transit (d : Degree) (r : Span) :
    (s.setSpan d r).transit = s.transit := rfl
@[simp] theorem State.setSpan_port (d : Degree) (r : Span) :
    (s.setSpan d r).port = s.port := rfl
@[simp] theorem State.setSpan_freeIndex (d : Degree) (r : Span) :
    (s.setSpan d r).freeIndex = s.freeIndex := rfl
@[simp] theorem State.setSpan_pending (d : Degree) (r : Span) :
    (s.setSpan d r).pending = s.pending := rfl

/-! ### setSource -/

@[simp] theorem State.setSource_now (i : SourceNo) (r : Source) :
    (s.setSource i r).now = s.now := rfl
@[simp] theorem State.setSource_front (i : SourceNo) (r : Source) :
    (s.setSource i r).front = s.front := rfl
@[simp] theorem State.setSource_cond (i : SourceNo) (r : Source) :
    (s.setSource i r).cond = s.cond := rfl
@[simp] theorem State.setSource_map (i : SourceNo) (r : Source) :
    (s.setSource i r).map = s.map := rfl
@[simp] theorem State.setSource_grant (i : SourceNo) (r : Source) :
    (s.setSource i r).grant = { sources := put s.grant.sources i r } := rfl
@[simp] theorem State.setSource_ctrl (i : SourceNo) (r : Source) :
    (s.setSource i r).ctrl = s.ctrl := rfl
@[simp] theorem State.setSource_words (i : SourceNo) (r : Source) :
    (s.setSource i r).words = s.words := rfl
@[simp] theorem State.setSource_store (i : SourceNo) (r : Source) :
    (s.setSource i r).store = s.store := rfl
@[simp] theorem State.setSource_claim (i : SourceNo) (r : Source) :
    (s.setSource i r).claim = s.claim := rfl
@[simp] theorem State.setSource_capture (i : SourceNo) (r : Source) :
    (s.setSource i r).capture = s.capture := rfl
@[simp] theorem State.setSource_link (i : SourceNo) (r : Source) :
    (s.setSource i r).link = s.link := rfl
@[simp] theorem State.setSource_transit (i : SourceNo) (r : Source) :
    (s.setSource i r).transit = s.transit := rfl
@[simp] theorem State.setSource_port (i : SourceNo) (r : Source) :
    (s.setSource i r).port = s.port := rfl
@[simp] theorem State.setSource_freeIndex (i : SourceNo) (r : Source) :
    (s.setSource i r).freeIndex = s.freeIndex := rfl
@[simp] theorem State.setSource_pending (i : SourceNo) (r : Source) :
    (s.setSource i r).pending = s.pending := rfl

/-! ### setLine -/

@[simp] theorem State.setLine_now (d : Degree) (r : Line) :
    (s.setLine d r).now = s.now := rfl
@[simp] theorem State.setLine_front (d : Degree) (r : Line) :
    (s.setLine d r).front = s.front := rfl
@[simp] theorem State.setLine_cond (d : Degree) (r : Line) :
    (s.setLine d r).cond = s.cond := rfl
@[simp] theorem State.setLine_map (d : Degree) (r : Line) :
    (s.setLine d r).map = s.map := rfl
@[simp] theorem State.setLine_grant (d : Degree) (r : Line) :
    (s.setLine d r).grant = s.grant := rfl
@[simp] theorem State.setLine_ctrl (d : Degree) (r : Line) :
    (s.setLine d r).ctrl = s.ctrl := rfl
@[simp] theorem State.setLine_words (d : Degree) (r : Line) :
    (s.setLine d r).words = { s.words with lines := put s.words.lines d r } := rfl
@[simp] theorem State.setLine_store (d : Degree) (r : Line) :
    (s.setLine d r).store = s.store := rfl
@[simp] theorem State.setLine_claim (d : Degree) (r : Line) :
    (s.setLine d r).claim = s.claim := rfl
@[simp] theorem State.setLine_capture (d : Degree) (r : Line) :
    (s.setLine d r).capture = s.capture := rfl
@[simp] theorem State.setLine_link (d : Degree) (r : Line) :
    (s.setLine d r).link = s.link := rfl
@[simp] theorem State.setLine_transit (d : Degree) (r : Line) :
    (s.setLine d r).transit = s.transit := rfl
@[simp] theorem State.setLine_port (d : Degree) (r : Line) :
    (s.setLine d r).port = s.port := rfl
@[simp] theorem State.setLine_freeIndex (d : Degree) (r : Line) :
    (s.setLine d r).freeIndex = s.freeIndex := rfl
@[simp] theorem State.setLine_pending (d : Degree) (r : Line) :
    (s.setLine d r).pending = s.pending := rfl

/-! ### setContact -/

@[simp] theorem State.setContact_now (k : ContactNo) (r : Contact) :
    (s.setContact k r).now = s.now := rfl
@[simp] theorem State.setContact_front (k : ContactNo) (r : Contact) :
    (s.setContact k r).front = s.front := rfl
@[simp] theorem State.setContact_cond (k : ContactNo) (r : Contact) :
    (s.setContact k r).cond = { s.cond with contacts := put s.cond.contacts k r } := rfl
@[simp] theorem State.setContact_map (k : ContactNo) (r : Contact) :
    (s.setContact k r).map = s.map := rfl
@[simp] theorem State.setContact_grant (k : ContactNo) (r : Contact) :
    (s.setContact k r).grant = s.grant := rfl
@[simp] theorem State.setContact_ctrl (k : ContactNo) (r : Contact) :
    (s.setContact k r).ctrl = s.ctrl := rfl
@[simp] theorem State.setContact_words (k : ContactNo) (r : Contact) :
    (s.setContact k r).words = s.words := rfl
@[simp] theorem State.setContact_store (k : ContactNo) (r : Contact) :
    (s.setContact k r).store = s.store := rfl
@[simp] theorem State.setContact_claim (k : ContactNo) (r : Contact) :
    (s.setContact k r).claim = s.claim := rfl
@[simp] theorem State.setContact_capture (k : ContactNo) (r : Contact) :
    (s.setContact k r).capture = s.capture := rfl
@[simp] theorem State.setContact_link (k : ContactNo) (r : Contact) :
    (s.setContact k r).link = s.link := rfl
@[simp] theorem State.setContact_transit (k : ContactNo) (r : Contact) :
    (s.setContact k r).transit = s.transit := rfl
@[simp] theorem State.setContact_port (k : ContactNo) (r : Contact) :
    (s.setContact k r).port = s.port := rfl
@[simp] theorem State.setContact_freeIndex (k : ContactNo) (r : Contact) :
    (s.setContact k r).freeIndex = s.freeIndex := rfl
@[simp] theorem State.setContact_pending (k : ContactNo) (r : Contact) :
    (s.setContact k r).pending = s.pending := rfl

/-! ### setEntry -/

@[simp] theorem State.setEntry_now (e : EntryNo) (r : Entry) :
    (s.setEntry e r).now = s.now := rfl
@[simp] theorem State.setEntry_front (e : EntryNo) (r : Entry) :
    (s.setEntry e r).front = s.front := rfl
@[simp] theorem State.setEntry_cond (e : EntryNo) (r : Entry) :
    (s.setEntry e r).cond = s.cond := rfl
@[simp] theorem State.setEntry_map (e : EntryNo) (r : Entry) :
    (s.setEntry e r).map = { s.map with entries := put s.map.entries e r } := rfl
@[simp] theorem State.setEntry_grant (e : EntryNo) (r : Entry) :
    (s.setEntry e r).grant = s.grant := rfl
@[simp] theorem State.setEntry_ctrl (e : EntryNo) (r : Entry) :
    (s.setEntry e r).ctrl = s.ctrl := rfl
@[simp] theorem State.setEntry_words (e : EntryNo) (r : Entry) :
    (s.setEntry e r).words = s.words := rfl
@[simp] theorem State.setEntry_store (e : EntryNo) (r : Entry) :
    (s.setEntry e r).store = s.store := rfl
@[simp] theorem State.setEntry_claim (e : EntryNo) (r : Entry) :
    (s.setEntry e r).claim = s.claim := rfl
@[simp] theorem State.setEntry_capture (e : EntryNo) (r : Entry) :
    (s.setEntry e r).capture = s.capture := rfl
@[simp] theorem State.setEntry_link (e : EntryNo) (r : Entry) :
    (s.setEntry e r).link = s.link := rfl
@[simp] theorem State.setEntry_transit (e : EntryNo) (r : Entry) :
    (s.setEntry e r).transit = s.transit := rfl
@[simp] theorem State.setEntry_port (e : EntryNo) (r : Entry) :
    (s.setEntry e r).port = s.port := rfl
@[simp] theorem State.setEntry_freeIndex (e : EntryNo) (r : Entry) :
    (s.setEntry e r).freeIndex = s.freeIndex := rfl
@[simp] theorem State.setEntry_pending (e : EntryNo) (r : Entry) :
    (s.setEntry e r).pending = s.pending := rfl

/-! ### setActive -/

@[simp] theorem State.setActive_now (l : List CondRecord) :
    (s.setActive l).now = s.now := rfl
@[simp] theorem State.setActive_front (l : List CondRecord) :
    (s.setActive l).front = s.front := rfl
@[simp] theorem State.setActive_cond (l : List CondRecord) :
    (s.setActive l).cond = { s.cond with active := l } := rfl
@[simp] theorem State.setActive_map (l : List CondRecord) :
    (s.setActive l).map = s.map := rfl
@[simp] theorem State.setActive_grant (l : List CondRecord) :
    (s.setActive l).grant = s.grant := rfl
@[simp] theorem State.setActive_ctrl (l : List CondRecord) :
    (s.setActive l).ctrl = s.ctrl := rfl
@[simp] theorem State.setActive_words (l : List CondRecord) :
    (s.setActive l).words = s.words := rfl
@[simp] theorem State.setActive_store (l : List CondRecord) :
    (s.setActive l).store = s.store := rfl
@[simp] theorem State.setActive_claim (l : List CondRecord) :
    (s.setActive l).claim = s.claim := rfl
@[simp] theorem State.setActive_capture (l : List CondRecord) :
    (s.setActive l).capture = s.capture := rfl
@[simp] theorem State.setActive_link (l : List CondRecord) :
    (s.setActive l).link = s.link := rfl
@[simp] theorem State.setActive_transit (l : List CondRecord) :
    (s.setActive l).transit = s.transit := rfl
@[simp] theorem State.setActive_port (l : List CondRecord) :
    (s.setActive l).port = s.port := rfl
@[simp] theorem State.setActive_freeIndex (l : List CondRecord) :
    (s.setActive l).freeIndex = s.freeIndex := rfl
@[simp] theorem State.setActive_pending (l : List CondRecord) :
    (s.setActive l).pending = s.pending := rfl

/-! ### setQueue -/

@[simp] theorem State.setQueue_now (q : List MapItem) :
    (s.setQueue q).now = s.now := rfl
@[simp] theorem State.setQueue_front (q : List MapItem) :
    (s.setQueue q).front = s.front := rfl
@[simp] theorem State.setQueue_cond (q : List MapItem) :
    (s.setQueue q).cond = s.cond := rfl
@[simp] theorem State.setQueue_map (q : List MapItem) :
    (s.setQueue q).map = { s.map with queue := q } := rfl
@[simp] theorem State.setQueue_grant (q : List MapItem) :
    (s.setQueue q).grant = s.grant := rfl
@[simp] theorem State.setQueue_ctrl (q : List MapItem) :
    (s.setQueue q).ctrl = s.ctrl := rfl
@[simp] theorem State.setQueue_words (q : List MapItem) :
    (s.setQueue q).words = s.words := rfl
@[simp] theorem State.setQueue_store (q : List MapItem) :
    (s.setQueue q).store = s.store := rfl
@[simp] theorem State.setQueue_claim (q : List MapItem) :
    (s.setQueue q).claim = s.claim := rfl
@[simp] theorem State.setQueue_capture (q : List MapItem) :
    (s.setQueue q).capture = s.capture := rfl
@[simp] theorem State.setQueue_link (q : List MapItem) :
    (s.setQueue q).link = s.link := rfl
@[simp] theorem State.setQueue_transit (q : List MapItem) :
    (s.setQueue q).transit = s.transit := rfl
@[simp] theorem State.setQueue_port (q : List MapItem) :
    (s.setQueue q).port = s.port := rfl
@[simp] theorem State.setQueue_freeIndex (q : List MapItem) :
    (s.setQueue q).freeIndex = s.freeIndex := rfl
@[simp] theorem State.setQueue_pending (q : List MapItem) :
    (s.setQueue q).pending = s.pending := rfl

/-! ### setShut -/

@[simp] theorem State.setShut_now (m : MasterShut) :
    (s.setShut m).now = s.now := rfl
@[simp] theorem State.setShut_front (m : MasterShut) :
    (s.setShut m).front = s.front := rfl
@[simp] theorem State.setShut_cond (m : MasterShut) :
    (s.setShut m).cond = { s.cond with shut := m } := rfl
@[simp] theorem State.setShut_map (m : MasterShut) :
    (s.setShut m).map = s.map := rfl
@[simp] theorem State.setShut_grant (m : MasterShut) :
    (s.setShut m).grant = s.grant := rfl
@[simp] theorem State.setShut_ctrl (m : MasterShut) :
    (s.setShut m).ctrl = s.ctrl := rfl
@[simp] theorem State.setShut_words (m : MasterShut) :
    (s.setShut m).words = s.words := rfl
@[simp] theorem State.setShut_store (m : MasterShut) :
    (s.setShut m).store = s.store := rfl
@[simp] theorem State.setShut_claim (m : MasterShut) :
    (s.setShut m).claim = s.claim := rfl
@[simp] theorem State.setShut_capture (m : MasterShut) :
    (s.setShut m).capture = s.capture := rfl
@[simp] theorem State.setShut_link (m : MasterShut) :
    (s.setShut m).link = s.link := rfl
@[simp] theorem State.setShut_transit (m : MasterShut) :
    (s.setShut m).transit = s.transit := rfl
@[simp] theorem State.setShut_port (m : MasterShut) :
    (s.setShut m).port = s.port := rfl
@[simp] theorem State.setShut_freeIndex (m : MasterShut) :
    (s.setShut m).freeIndex = s.freeIndex := rfl
@[simp] theorem State.setShut_pending (m : MasterShut) :
    (s.setShut m).pending = s.pending := rfl

/-! ### setClaim -/

@[simp] theorem State.setClaim_now (c : ClaimUnit) :
    (s.setClaim c).now = s.now := rfl
@[simp] theorem State.setClaim_front (c : ClaimUnit) :
    (s.setClaim c).front = s.front := rfl
@[simp] theorem State.setClaim_cond (c : ClaimUnit) :
    (s.setClaim c).cond = s.cond := rfl
@[simp] theorem State.setClaim_map (c : ClaimUnit) :
    (s.setClaim c).map = s.map := rfl
@[simp] theorem State.setClaim_grant (c : ClaimUnit) :
    (s.setClaim c).grant = s.grant := rfl
@[simp] theorem State.setClaim_ctrl (c : ClaimUnit) :
    (s.setClaim c).ctrl = s.ctrl := rfl
@[simp] theorem State.setClaim_words (c : ClaimUnit) :
    (s.setClaim c).words = s.words := rfl
@[simp] theorem State.setClaim_store (c : ClaimUnit) :
    (s.setClaim c).store = s.store := rfl
@[simp] theorem State.setClaim_claim (c : ClaimUnit) :
    (s.setClaim c).claim = c := rfl
@[simp] theorem State.setClaim_capture (c : ClaimUnit) :
    (s.setClaim c).capture = s.capture := rfl
@[simp] theorem State.setClaim_link (c : ClaimUnit) :
    (s.setClaim c).link = s.link := rfl
@[simp] theorem State.setClaim_transit (c : ClaimUnit) :
    (s.setClaim c).transit = s.transit := rfl
@[simp] theorem State.setClaim_port (c : ClaimUnit) :
    (s.setClaim c).port = s.port := rfl
@[simp] theorem State.setClaim_freeIndex (c : ClaimUnit) :
    (s.setClaim c).freeIndex = s.freeIndex := rfl
@[simp] theorem State.setClaim_pending (c : ClaimUnit) :
    (s.setClaim c).pending = s.pending := rfl

/-! ### setCapture -/

@[simp] theorem State.setCapture_now (c : CaptureUnit) :
    (s.setCapture c).now = s.now := rfl
@[simp] theorem State.setCapture_front (c : CaptureUnit) :
    (s.setCapture c).front = s.front := rfl
@[simp] theorem State.setCapture_cond (c : CaptureUnit) :
    (s.setCapture c).cond = s.cond := rfl
@[simp] theorem State.setCapture_map (c : CaptureUnit) :
    (s.setCapture c).map = s.map := rfl
@[simp] theorem State.setCapture_grant (c : CaptureUnit) :
    (s.setCapture c).grant = s.grant := rfl
@[simp] theorem State.setCapture_ctrl (c : CaptureUnit) :
    (s.setCapture c).ctrl = s.ctrl := rfl
@[simp] theorem State.setCapture_words (c : CaptureUnit) :
    (s.setCapture c).words = s.words := rfl
@[simp] theorem State.setCapture_store (c : CaptureUnit) :
    (s.setCapture c).store = s.store := rfl
@[simp] theorem State.setCapture_claim (c : CaptureUnit) :
    (s.setCapture c).claim = s.claim := rfl
@[simp] theorem State.setCapture_capture (c : CaptureUnit) :
    (s.setCapture c).capture = c := rfl
@[simp] theorem State.setCapture_link (c : CaptureUnit) :
    (s.setCapture c).link = s.link := rfl
@[simp] theorem State.setCapture_transit (c : CaptureUnit) :
    (s.setCapture c).transit = s.transit := rfl
@[simp] theorem State.setCapture_port (c : CaptureUnit) :
    (s.setCapture c).port = s.port := rfl
@[simp] theorem State.setCapture_freeIndex (c : CaptureUnit) :
    (s.setCapture c).freeIndex = s.freeIndex := rfl
@[simp] theorem State.setCapture_pending (c : CaptureUnit) :
    (s.setCapture c).pending = s.pending := rfl

/-! ### setLink -/

@[simp] theorem State.setLink_now (l : HostLink) :
    (s.setLink l).now = s.now := rfl
@[simp] theorem State.setLink_front (l : HostLink) :
    (s.setLink l).front = s.front := rfl
@[simp] theorem State.setLink_cond (l : HostLink) :
    (s.setLink l).cond = s.cond := rfl
@[simp] theorem State.setLink_map (l : HostLink) :
    (s.setLink l).map = s.map := rfl
@[simp] theorem State.setLink_grant (l : HostLink) :
    (s.setLink l).grant = s.grant := rfl
@[simp] theorem State.setLink_ctrl (l : HostLink) :
    (s.setLink l).ctrl = s.ctrl := rfl
@[simp] theorem State.setLink_words (l : HostLink) :
    (s.setLink l).words = s.words := rfl
@[simp] theorem State.setLink_store (l : HostLink) :
    (s.setLink l).store = s.store := rfl
@[simp] theorem State.setLink_claim (l : HostLink) :
    (s.setLink l).claim = s.claim := rfl
@[simp] theorem State.setLink_capture (l : HostLink) :
    (s.setLink l).capture = s.capture := rfl
@[simp] theorem State.setLink_link (l : HostLink) :
    (s.setLink l).link = l := rfl
@[simp] theorem State.setLink_transit (l : HostLink) :
    (s.setLink l).transit = s.transit := rfl
@[simp] theorem State.setLink_port (l : HostLink) :
    (s.setLink l).port = s.port := rfl
@[simp] theorem State.setLink_freeIndex (l : HostLink) :
    (s.setLink l).freeIndex = s.freeIndex := rfl
@[simp] theorem State.setLink_pending (l : HostLink) :
    (s.setLink l).pending = s.pending := rfl

/-! ### handGrant -/

@[simp] theorem State.handGrant_now (e : GrantEvent) :
    (s.handGrant e).now = s.now := rfl
@[simp] theorem State.handGrant_front (e : GrantEvent) :
    (s.handGrant e).front = s.front := rfl
@[simp] theorem State.handGrant_cond (e : GrantEvent) :
    (s.handGrant e).cond = s.cond := rfl
@[simp] theorem State.handGrant_map (e : GrantEvent) :
    (s.handGrant e).map = s.map := rfl
@[simp] theorem State.handGrant_grant (e : GrantEvent) :
    (s.handGrant e).grant = s.grant := rfl
@[simp] theorem State.handGrant_ctrl (e : GrantEvent) :
    (s.handGrant e).ctrl = s.ctrl := rfl
@[simp] theorem State.handGrant_words (e : GrantEvent) :
    (s.handGrant e).words = s.words := rfl
@[simp] theorem State.handGrant_store (e : GrantEvent) :
    (s.handGrant e).store = s.store := rfl
@[simp] theorem State.handGrant_claim (e : GrantEvent) :
    (s.handGrant e).claim = s.claim := rfl
@[simp] theorem State.handGrant_capture (e : GrantEvent) :
    (s.handGrant e).capture = s.capture := rfl
@[simp] theorem State.handGrant_link (e : GrantEvent) :
    (s.handGrant e).link = s.link := rfl
@[simp] theorem State.handGrant_transit (e : GrantEvent) :
    (s.handGrant e).transit = { s.transit with toGrant := s.transit.toGrant ++ [e] } := rfl
@[simp] theorem State.handGrant_port (e : GrantEvent) :
    (s.handGrant e).port = s.port := rfl
@[simp] theorem State.handGrant_freeIndex (e : GrantEvent) :
    (s.handGrant e).freeIndex = s.freeIndex := rfl
@[simp] theorem State.handGrant_pending (e : GrantEvent) :
    (s.handGrant e).pending = s.pending := rfl

/-! ### handSpan -/

@[simp] theorem State.handSpan_now (e : SpanEvent) :
    (s.handSpan e).now = s.now := rfl
@[simp] theorem State.handSpan_front (e : SpanEvent) :
    (s.handSpan e).front = s.front := rfl
@[simp] theorem State.handSpan_cond (e : SpanEvent) :
    (s.handSpan e).cond = s.cond := rfl
@[simp] theorem State.handSpan_map (e : SpanEvent) :
    (s.handSpan e).map = s.map := rfl
@[simp] theorem State.handSpan_grant (e : SpanEvent) :
    (s.handSpan e).grant = s.grant := rfl
@[simp] theorem State.handSpan_ctrl (e : SpanEvent) :
    (s.handSpan e).ctrl = s.ctrl := rfl
@[simp] theorem State.handSpan_words (e : SpanEvent) :
    (s.handSpan e).words = s.words := rfl
@[simp] theorem State.handSpan_store (e : SpanEvent) :
    (s.handSpan e).store = s.store := rfl
@[simp] theorem State.handSpan_claim (e : SpanEvent) :
    (s.handSpan e).claim = s.claim := rfl
@[simp] theorem State.handSpan_capture (e : SpanEvent) :
    (s.handSpan e).capture = s.capture := rfl
@[simp] theorem State.handSpan_link (e : SpanEvent) :
    (s.handSpan e).link = s.link := rfl
@[simp] theorem State.handSpan_transit (e : SpanEvent) :
    (s.handSpan e).transit = { s.transit with toSpan := s.transit.toSpan ++ [e] } := rfl
@[simp] theorem State.handSpan_port (e : SpanEvent) :
    (s.handSpan e).port = s.port := rfl
@[simp] theorem State.handSpan_freeIndex (e : SpanEvent) :
    (s.handSpan e).freeIndex = s.freeIndex := rfl
@[simp] theorem State.handSpan_pending (e : SpanEvent) :
    (s.handSpan e).pending = s.pending := rfl

/-! ### handLine -/

@[simp] theorem State.handLine_now (d : Degree) (e : LineEvent) :
    (s.handLine d e).now = s.now := rfl
@[simp] theorem State.handLine_front (d : Degree) (e : LineEvent) :
    (s.handLine d e).front = s.front := rfl
@[simp] theorem State.handLine_cond (d : Degree) (e : LineEvent) :
    (s.handLine d e).cond = s.cond := rfl
@[simp] theorem State.handLine_map (d : Degree) (e : LineEvent) :
    (s.handLine d e).map = s.map := rfl
@[simp] theorem State.handLine_grant (d : Degree) (e : LineEvent) :
    (s.handLine d e).grant = s.grant := rfl
@[simp] theorem State.handLine_ctrl (d : Degree) (e : LineEvent) :
    (s.handLine d e).ctrl = s.ctrl := rfl
@[simp] theorem State.handLine_words (d : Degree) (e : LineEvent) :
    (s.handLine d e).words = s.words := rfl
@[simp] theorem State.handLine_store (d : Degree) (e : LineEvent) :
    (s.handLine d e).store = s.store := rfl
@[simp] theorem State.handLine_claim (d : Degree) (e : LineEvent) :
    (s.handLine d e).claim = s.claim := rfl
@[simp] theorem State.handLine_capture (d : Degree) (e : LineEvent) :
    (s.handLine d e).capture = s.capture := rfl
@[simp] theorem State.handLine_link (d : Degree) (e : LineEvent) :
    (s.handLine d e).link = s.link := rfl
@[simp] theorem State.handLine_transit (d : Degree) (e : LineEvent) :
    (s.handLine d e).transit = { s.transit with fromLine := s.transit.fromLine ++ [(d, e)] } := rfl
@[simp] theorem State.handLine_port (d : Degree) (e : LineEvent) :
    (s.handLine d e).port = s.port := rfl
@[simp] theorem State.handLine_freeIndex (d : Degree) (e : LineEvent) :
    (s.handLine d e).freeIndex = s.freeIndex := rfl
@[simp] theorem State.handLine_pending (d : Degree) (e : LineEvent) :
    (s.handLine d e).pending = s.pending := rfl

/-! ### handSnapshot -/

@[simp] theorem State.handSnapshot_now (e : SnapshotEvent) :
    (s.handSnapshot e).now = s.now := rfl
@[simp] theorem State.handSnapshot_front (e : SnapshotEvent) :
    (s.handSnapshot e).front = s.front := rfl
@[simp] theorem State.handSnapshot_cond (e : SnapshotEvent) :
    (s.handSnapshot e).cond = s.cond := rfl
@[simp] theorem State.handSnapshot_map (e : SnapshotEvent) :
    (s.handSnapshot e).map = s.map := rfl
@[simp] theorem State.handSnapshot_grant (e : SnapshotEvent) :
    (s.handSnapshot e).grant = s.grant := rfl
@[simp] theorem State.handSnapshot_ctrl (e : SnapshotEvent) :
    (s.handSnapshot e).ctrl = s.ctrl := rfl
@[simp] theorem State.handSnapshot_words (e : SnapshotEvent) :
    (s.handSnapshot e).words = s.words := rfl
@[simp] theorem State.handSnapshot_store (e : SnapshotEvent) :
    (s.handSnapshot e).store = s.store := rfl
@[simp] theorem State.handSnapshot_claim (e : SnapshotEvent) :
    (s.handSnapshot e).claim = s.claim := rfl
@[simp] theorem State.handSnapshot_capture (e : SnapshotEvent) :
    (s.handSnapshot e).capture = s.capture := rfl
@[simp] theorem State.handSnapshot_link (e : SnapshotEvent) :
    (s.handSnapshot e).link = s.link := rfl
@[simp] theorem State.handSnapshot_transit (e : SnapshotEvent) :
    (s.handSnapshot e).transit = { s.transit with snapshots := s.transit.snapshots ++ [e] } := rfl
@[simp] theorem State.handSnapshot_port (e : SnapshotEvent) :
    (s.handSnapshot e).port = s.port := rfl
@[simp] theorem State.handSnapshot_freeIndex (e : SnapshotEvent) :
    (s.handSnapshot e).freeIndex = s.freeIndex := rfl
@[simp] theorem State.handSnapshot_pending (e : SnapshotEvent) :
    (s.handSnapshot e).pending = s.pending := rfl

/-! ### handForced -/

@[simp] theorem State.handForced_now (d : Degree) :
    (s.handForced d).now = s.now := rfl
@[simp] theorem State.handForced_front (d : Degree) :
    (s.handForced d).front = s.front := rfl
@[simp] theorem State.handForced_cond (d : Degree) :
    (s.handForced d).cond = s.cond := rfl
@[simp] theorem State.handForced_map (d : Degree) :
    (s.handForced d).map = s.map := rfl
@[simp] theorem State.handForced_grant (d : Degree) :
    (s.handForced d).grant = s.grant := rfl
@[simp] theorem State.handForced_ctrl (d : Degree) :
    (s.handForced d).ctrl = s.ctrl := rfl
@[simp] theorem State.handForced_words (d : Degree) :
    (s.handForced d).words = s.words := rfl
@[simp] theorem State.handForced_store (d : Degree) :
    (s.handForced d).store = s.store := rfl
@[simp] theorem State.handForced_claim (d : Degree) :
    (s.handForced d).claim = s.claim := rfl
@[simp] theorem State.handForced_capture (d : Degree) :
    (s.handForced d).capture = s.capture := rfl
@[simp] theorem State.handForced_link (d : Degree) :
    (s.handForced d).link = s.link := rfl
@[simp] theorem State.handForced_transit (d : Degree) :
    (s.handForced d).transit = { s.transit with forced := s.transit.forced ++ [d] } := rfl
@[simp] theorem State.handForced_port (d : Degree) :
    (s.handForced d).port = s.port := rfl
@[simp] theorem State.handForced_freeIndex (d : Degree) :
    (s.handForced d).freeIndex = s.freeIndex := rfl
@[simp] theorem State.handForced_pending (d : Degree) :
    (s.handForced d).pending = s.pending := rfl

/-! ### handZeroing -/

@[simp] theorem State.handZeroing_now :
    (s.handZeroing).now = s.now := rfl
@[simp] theorem State.handZeroing_front :
    (s.handZeroing).front = s.front := rfl
@[simp] theorem State.handZeroing_cond :
    (s.handZeroing).cond = s.cond := rfl
@[simp] theorem State.handZeroing_map :
    (s.handZeroing).map = s.map := rfl
@[simp] theorem State.handZeroing_grant :
    (s.handZeroing).grant = s.grant := rfl
@[simp] theorem State.handZeroing_ctrl :
    (s.handZeroing).ctrl = s.ctrl := rfl
@[simp] theorem State.handZeroing_words :
    (s.handZeroing).words = s.words := rfl
@[simp] theorem State.handZeroing_store :
    (s.handZeroing).store = s.store := rfl
@[simp] theorem State.handZeroing_claim :
    (s.handZeroing).claim = s.claim := rfl
@[simp] theorem State.handZeroing_capture :
    (s.handZeroing).capture = s.capture := rfl
@[simp] theorem State.handZeroing_link :
    (s.handZeroing).link = s.link := rfl
@[simp] theorem State.handZeroing_transit :
    (s.handZeroing).transit = { s.transit with zeroings := s.transit.zeroings + 1 } := rfl
@[simp] theorem State.handZeroing_port :
    (s.handZeroing).port = s.port := rfl
@[simp] theorem State.handZeroing_freeIndex :
    (s.handZeroing).freeIndex = s.freeIndex := rfl
@[simp] theorem State.handZeroing_pending :
    (s.handZeroing).pending = s.pending := rfl

/-! ### handNotice -/

@[simp] theorem State.handNotice_now (n : Notice) :
    (s.handNotice n).now = s.now := rfl
@[simp] theorem State.handNotice_front (n : Notice) :
    (s.handNotice n).front = s.front := rfl
@[simp] theorem State.handNotice_cond (n : Notice) :
    (s.handNotice n).cond = s.cond := rfl
@[simp] theorem State.handNotice_map (n : Notice) :
    (s.handNotice n).map = s.map := rfl
@[simp] theorem State.handNotice_grant (n : Notice) :
    (s.handNotice n).grant = s.grant := rfl
@[simp] theorem State.handNotice_ctrl (n : Notice) :
    (s.handNotice n).ctrl = s.ctrl := rfl
@[simp] theorem State.handNotice_words (n : Notice) :
    (s.handNotice n).words = s.words := rfl
@[simp] theorem State.handNotice_store (n : Notice) :
    (s.handNotice n).store = s.store := rfl
@[simp] theorem State.handNotice_claim (n : Notice) :
    (s.handNotice n).claim = s.claim := rfl
@[simp] theorem State.handNotice_capture (n : Notice) :
    (s.handNotice n).capture = s.capture := rfl
@[simp] theorem State.handNotice_link (n : Notice) :
    (s.handNotice n).link = s.link := rfl
@[simp] theorem State.handNotice_transit (n : Notice) :
    (s.handNotice n).transit = { s.transit with toClaim := s.transit.toClaim ++ [.notice n] } := rfl
@[simp] theorem State.handNotice_port (n : Notice) :
    (s.handNotice n).port = s.port := rfl
@[simp] theorem State.handNotice_freeIndex (n : Notice) :
    (s.handNotice n).freeIndex = s.freeIndex := rfl
@[simp] theorem State.handNotice_pending (n : Notice) :
    (s.handNotice n).pending = s.pending := rfl

/-! ### handBreak -/

@[simp] theorem State.handBreak_now (c : BreakCause) :
    (s.handBreak c).now = s.now := rfl
@[simp] theorem State.handBreak_front (c : BreakCause) :
    (s.handBreak c).front = s.front := rfl
@[simp] theorem State.handBreak_cond (c : BreakCause) :
    (s.handBreak c).cond = s.cond := rfl
@[simp] theorem State.handBreak_map (c : BreakCause) :
    (s.handBreak c).map = s.map := rfl
@[simp] theorem State.handBreak_grant (c : BreakCause) :
    (s.handBreak c).grant = s.grant := rfl
@[simp] theorem State.handBreak_ctrl (c : BreakCause) :
    (s.handBreak c).ctrl = s.ctrl := rfl
@[simp] theorem State.handBreak_words (c : BreakCause) :
    (s.handBreak c).words = s.words := rfl
@[simp] theorem State.handBreak_store (c : BreakCause) :
    (s.handBreak c).store = s.store := rfl
@[simp] theorem State.handBreak_claim (c : BreakCause) :
    (s.handBreak c).claim = s.claim := rfl
@[simp] theorem State.handBreak_capture (c : BreakCause) :
    (s.handBreak c).capture = s.capture := rfl
@[simp] theorem State.handBreak_link (c : BreakCause) :
    (s.handBreak c).link = s.link := rfl
@[simp] theorem State.handBreak_transit (c : BreakCause) :
    (s.handBreak c).transit = { s.transit with toClaim := s.transit.toClaim ++ [.breakBy c] } := rfl
@[simp] theorem State.handBreak_port (c : BreakCause) :
    (s.handBreak c).port = s.port := rfl
@[simp] theorem State.handBreak_freeIndex (c : BreakCause) :
    (s.handBreak c).freeIndex = s.freeIndex := rfl
@[simp] theorem State.handBreak_pending (c : BreakCause) :
    (s.handBreak c).pending = s.pending := rfl

/-! ### handSample -/

@[simp] theorem State.handSample_now (d : Degree) (x : Sample) :
    (s.handSample d x).now = s.now := rfl
@[simp] theorem State.handSample_front (d : Degree) (x : Sample) :
    (s.handSample d x).front = s.front := rfl
@[simp] theorem State.handSample_cond (d : Degree) (x : Sample) :
    (s.handSample d x).cond = s.cond := rfl
@[simp] theorem State.handSample_map (d : Degree) (x : Sample) :
    (s.handSample d x).map = s.map := rfl
@[simp] theorem State.handSample_grant (d : Degree) (x : Sample) :
    (s.handSample d x).grant = s.grant := rfl
@[simp] theorem State.handSample_ctrl (d : Degree) (x : Sample) :
    (s.handSample d x).ctrl = s.ctrl := rfl
@[simp] theorem State.handSample_words (d : Degree) (x : Sample) :
    (s.handSample d x).words = s.words := rfl
@[simp] theorem State.handSample_store (d : Degree) (x : Sample) :
    (s.handSample d x).store = s.store := rfl
@[simp] theorem State.handSample_claim (d : Degree) (x : Sample) :
    (s.handSample d x).claim = s.claim := rfl
@[simp] theorem State.handSample_capture (d : Degree) (x : Sample) :
    (s.handSample d x).capture = s.capture := rfl
@[simp] theorem State.handSample_link (d : Degree) (x : Sample) :
    (s.handSample d x).link = s.link := rfl
@[simp] theorem State.handSample_transit (d : Degree) (x : Sample) :
    (s.handSample d x).transit = { s.transit with samples := s.transit.samples ++ [(d, x)] } := rfl
@[simp] theorem State.handSample_port (d : Degree) (x : Sample) :
    (s.handSample d x).port = s.port := rfl
@[simp] theorem State.handSample_freeIndex (d : Degree) (x : Sample) :
    (s.handSample d x).freeIndex = s.freeIndex := rfl
@[simp] theorem State.handSample_pending (d : Degree) (x : Sample) :
    (s.handSample d x).pending = s.pending := rfl

/-! ### handTrigger -/

@[simp] theorem State.handTrigger_now (d : Degree) (k : Key) :
    (s.handTrigger d k).now = s.now := rfl
@[simp] theorem State.handTrigger_front (d : Degree) (k : Key) :
    (s.handTrigger d k).front = s.front := rfl
@[simp] theorem State.handTrigger_cond (d : Degree) (k : Key) :
    (s.handTrigger d k).cond = s.cond := rfl
@[simp] theorem State.handTrigger_map (d : Degree) (k : Key) :
    (s.handTrigger d k).map = s.map := rfl
@[simp] theorem State.handTrigger_grant (d : Degree) (k : Key) :
    (s.handTrigger d k).grant = s.grant := rfl
@[simp] theorem State.handTrigger_ctrl (d : Degree) (k : Key) :
    (s.handTrigger d k).ctrl = s.ctrl := rfl
@[simp] theorem State.handTrigger_words (d : Degree) (k : Key) :
    (s.handTrigger d k).words = s.words := rfl
@[simp] theorem State.handTrigger_store (d : Degree) (k : Key) :
    (s.handTrigger d k).store = s.store := rfl
@[simp] theorem State.handTrigger_claim (d : Degree) (k : Key) :
    (s.handTrigger d k).claim = s.claim := rfl
@[simp] theorem State.handTrigger_capture (d : Degree) (k : Key) :
    (s.handTrigger d k).capture = s.capture := rfl
@[simp] theorem State.handTrigger_link (d : Degree) (k : Key) :
    (s.handTrigger d k).link = s.link := rfl
@[simp] theorem State.handTrigger_transit (d : Degree) (k : Key) :
    (s.handTrigger d k).transit = { s.transit with triggers := s.transit.triggers ++ [(d, k)] } := rfl
@[simp] theorem State.handTrigger_port (d : Degree) (k : Key) :
    (s.handTrigger d k).port = s.port := rfl
@[simp] theorem State.handTrigger_freeIndex (d : Degree) (k : Key) :
    (s.handTrigger d k).freeIndex = s.freeIndex := rfl
@[simp] theorem State.handTrigger_pending (d : Degree) (k : Key) :
    (s.handTrigger d k).pending = s.pending := rfl

/-! ### handReport -/

@[simp] theorem State.handReport_now (r : Report) (b : Bool) :
    (s.handReport r b).now = s.now := rfl
@[simp] theorem State.handReport_front (r : Report) (b : Bool) :
    (s.handReport r b).front = s.front := rfl
@[simp] theorem State.handReport_cond (r : Report) (b : Bool) :
    (s.handReport r b).cond = s.cond := rfl
@[simp] theorem State.handReport_map (r : Report) (b : Bool) :
    (s.handReport r b).map = s.map := rfl
@[simp] theorem State.handReport_grant (r : Report) (b : Bool) :
    (s.handReport r b).grant = s.grant := rfl
@[simp] theorem State.handReport_ctrl (r : Report) (b : Bool) :
    (s.handReport r b).ctrl = s.ctrl := rfl
@[simp] theorem State.handReport_words (r : Report) (b : Bool) :
    (s.handReport r b).words = s.words := rfl
@[simp] theorem State.handReport_store (r : Report) (b : Bool) :
    (s.handReport r b).store = s.store := rfl
@[simp] theorem State.handReport_claim (r : Report) (b : Bool) :
    (s.handReport r b).claim = s.claim := rfl
@[simp] theorem State.handReport_capture (r : Report) (b : Bool) :
    (s.handReport r b).capture = s.capture := rfl
@[simp] theorem State.handReport_link (r : Report) (b : Bool) :
    (s.handReport r b).link = s.link := rfl
@[simp] theorem State.handReport_transit (r : Report) (b : Bool) :
    (s.handReport r b).transit = { s.transit with reports := s.transit.reports ++ [{ report := r, afterSpan := b }] } := rfl
@[simp] theorem State.handReport_port (r : Report) (b : Bool) :
    (s.handReport r b).port = s.port := rfl
@[simp] theorem State.handReport_freeIndex (r : Report) (b : Bool) :
    (s.handReport r b).freeIndex = s.freeIndex := rfl
@[simp] theorem State.handReport_pending (r : Report) (b : Bool) :
    (s.handReport r b).pending = s.pending := rfl

/-! ### handFrame -/

@[simp] theorem State.handFrame_now (f : Frame) :
    (s.handFrame f).now = s.now := rfl
@[simp] theorem State.handFrame_front (f : Frame) :
    (s.handFrame f).front = s.front := rfl
@[simp] theorem State.handFrame_cond (f : Frame) :
    (s.handFrame f).cond = s.cond := rfl
@[simp] theorem State.handFrame_map (f : Frame) :
    (s.handFrame f).map = s.map := rfl
@[simp] theorem State.handFrame_grant (f : Frame) :
    (s.handFrame f).grant = s.grant := rfl
@[simp] theorem State.handFrame_ctrl (f : Frame) :
    (s.handFrame f).ctrl = s.ctrl := rfl
@[simp] theorem State.handFrame_words (f : Frame) :
    (s.handFrame f).words = s.words := rfl
@[simp] theorem State.handFrame_store (f : Frame) :
    (s.handFrame f).store = s.store := rfl
@[simp] theorem State.handFrame_claim (f : Frame) :
    (s.handFrame f).claim = s.claim := rfl
@[simp] theorem State.handFrame_capture (f : Frame) :
    (s.handFrame f).capture = s.capture := rfl
@[simp] theorem State.handFrame_link (f : Frame) :
    (s.handFrame f).link = s.link := rfl
@[simp] theorem State.handFrame_transit (f : Frame) :
    (s.handFrame f).transit = { s.transit with frames := s.transit.frames ++ [f] } := rfl
@[simp] theorem State.handFrame_port (f : Frame) :
    (s.handFrame f).port = s.port := rfl
@[simp] theorem State.handFrame_freeIndex (f : Frame) :
    (s.handFrame f).freeIndex = s.freeIndex := rfl
@[simp] theorem State.handFrame_pending (f : Frame) :
    (s.handFrame f).pending = s.pending := rfl

/-! ### One record after a write of one record -/

@[simp] theorem State.span_setSpan_same (d : Degree) (r : Span) : (s.setSpan d r).span d = r :=
  look_put_same _ _ _
theorem State.span_setSpan (d e : Degree) (r : Span) : (s.setSpan d r).span e = if d = e then r else s.span e :=
  look_put _ _ _ _
@[simp] theorem State.source_setSource_same (i : SourceNo) (r : Source) : (s.setSource i r).source i = r :=
  look_put_same _ _ _
theorem State.source_setSource (i j : SourceNo) (r : Source) : (s.setSource i r).source j = if i = j then r else s.source j :=
  look_put _ _ _ _
@[simp] theorem State.line_setLine_same (d : Degree) (r : Line) : (s.setLine d r).line d = r :=
  look_put_same _ _ _
theorem State.line_setLine (d e : Degree) (r : Line) : (s.setLine d r).line e = if d = e then r else s.line e :=
  look_put _ _ _ _
@[simp] theorem State.contact_setContact_same (k : ContactNo) (r : Contact) : (s.setContact k r).contact k = r :=
  look_put_same _ _ _
theorem State.contact_setContact (k n : ContactNo) (r : Contact) : (s.setContact k r).contact n = if k = n then r else s.contact n :=
  look_put _ _ _ _
@[simp] theorem State.entry_setEntry_same (e : EntryNo) (r : Entry) : (s.setEntry e r).entry e = r :=
  look_put_same _ _ _
theorem State.entry_setEntry (e x : EntryNo) (r : Entry) : (s.setEntry e r).entry x = if e = x then r else s.entry x :=
  look_put _ _ _ _

/-! ### One record after an update of another -/

@[simp] theorem State.source_setSpan (d : Degree) (r : Span) (e : SourceNo) :
    (s.setSpan d r).source e = s.source e := rfl
@[simp] theorem State.line_setSpan (d : Degree) (r : Span) (e : Degree) :
    (s.setSpan d r).line e = s.line e := rfl
@[simp] theorem State.contact_setSpan (d : Degree) (r : Span) (e : ContactNo) :
    (s.setSpan d r).contact e = s.contact e := rfl
@[simp] theorem State.entry_setSpan (d : Degree) (r : Span) (e : EntryNo) :
    (s.setSpan d r).entry e = s.entry e := rfl
@[simp] theorem State.limits_setSpan (d : Degree) (r : Span) (e : Degree) :
    (s.setSpan d r).limits e = s.limits e := rfl
@[simp] theorem State.span_setSource (i : SourceNo) (r : Source) (e : Degree) :
    (s.setSource i r).span e = s.span e := rfl
@[simp] theorem State.line_setSource (i : SourceNo) (r : Source) (e : Degree) :
    (s.setSource i r).line e = s.line e := rfl
@[simp] theorem State.contact_setSource (i : SourceNo) (r : Source) (e : ContactNo) :
    (s.setSource i r).contact e = s.contact e := rfl
@[simp] theorem State.entry_setSource (i : SourceNo) (r : Source) (e : EntryNo) :
    (s.setSource i r).entry e = s.entry e := rfl
@[simp] theorem State.limits_setSource (i : SourceNo) (r : Source) (e : Degree) :
    (s.setSource i r).limits e = s.limits e := rfl
@[simp] theorem State.span_setLine (d : Degree) (r : Line) (e : Degree) :
    (s.setLine d r).span e = s.span e := rfl
@[simp] theorem State.source_setLine (d : Degree) (r : Line) (e : SourceNo) :
    (s.setLine d r).source e = s.source e := rfl
@[simp] theorem State.contact_setLine (d : Degree) (r : Line) (e : ContactNo) :
    (s.setLine d r).contact e = s.contact e := rfl
@[simp] theorem State.entry_setLine (d : Degree) (r : Line) (e : EntryNo) :
    (s.setLine d r).entry e = s.entry e := rfl
@[simp] theorem State.limits_setLine (d : Degree) (r : Line) (e : Degree) :
    (s.setLine d r).limits e = s.limits e := rfl
@[simp] theorem State.span_setContact (k : ContactNo) (r : Contact) (e : Degree) :
    (s.setContact k r).span e = s.span e := rfl
@[simp] theorem State.source_setContact (k : ContactNo) (r : Contact) (e : SourceNo) :
    (s.setContact k r).source e = s.source e := rfl
@[simp] theorem State.line_setContact (k : ContactNo) (r : Contact) (e : Degree) :
    (s.setContact k r).line e = s.line e := rfl
@[simp] theorem State.entry_setContact (k : ContactNo) (r : Contact) (e : EntryNo) :
    (s.setContact k r).entry e = s.entry e := rfl
@[simp] theorem State.limits_setContact (k : ContactNo) (r : Contact) (e : Degree) :
    (s.setContact k r).limits e = s.limits e := rfl
@[simp] theorem State.span_setEntry (x : EntryNo) (r : Entry) (e : Degree) :
    (s.setEntry x r).span e = s.span e := rfl
@[simp] theorem State.source_setEntry (x : EntryNo) (r : Entry) (e : SourceNo) :
    (s.setEntry x r).source e = s.source e := rfl
@[simp] theorem State.line_setEntry (x : EntryNo) (r : Entry) (e : Degree) :
    (s.setEntry x r).line e = s.line e := rfl
@[simp] theorem State.contact_setEntry (x : EntryNo) (r : Entry) (e : ContactNo) :
    (s.setEntry x r).contact e = s.contact e := rfl
@[simp] theorem State.limits_setEntry (x : EntryNo) (r : Entry) (e : Degree) :
    (s.setEntry x r).limits e = s.limits e := rfl
@[simp] theorem State.span_setActive (l : List CondRecord) (e : Degree) :
    (s.setActive l).span e = s.span e := rfl
@[simp] theorem State.source_setActive (l : List CondRecord) (e : SourceNo) :
    (s.setActive l).source e = s.source e := rfl
@[simp] theorem State.line_setActive (l : List CondRecord) (e : Degree) :
    (s.setActive l).line e = s.line e := rfl
@[simp] theorem State.contact_setActive (l : List CondRecord) (e : ContactNo) :
    (s.setActive l).contact e = s.contact e := rfl
@[simp] theorem State.entry_setActive (l : List CondRecord) (e : EntryNo) :
    (s.setActive l).entry e = s.entry e := rfl
@[simp] theorem State.limits_setActive (l : List CondRecord) (e : Degree) :
    (s.setActive l).limits e = s.limits e := rfl
@[simp] theorem State.span_setQueue (q : List MapItem) (e : Degree) :
    (s.setQueue q).span e = s.span e := rfl
@[simp] theorem State.source_setQueue (q : List MapItem) (e : SourceNo) :
    (s.setQueue q).source e = s.source e := rfl
@[simp] theorem State.line_setQueue (q : List MapItem) (e : Degree) :
    (s.setQueue q).line e = s.line e := rfl
@[simp] theorem State.contact_setQueue (q : List MapItem) (e : ContactNo) :
    (s.setQueue q).contact e = s.contact e := rfl
@[simp] theorem State.entry_setQueue (q : List MapItem) (e : EntryNo) :
    (s.setQueue q).entry e = s.entry e := rfl
@[simp] theorem State.limits_setQueue (q : List MapItem) (e : Degree) :
    (s.setQueue q).limits e = s.limits e := rfl
@[simp] theorem State.span_setShut (m : MasterShut) (e : Degree) :
    (s.setShut m).span e = s.span e := rfl
@[simp] theorem State.source_setShut (m : MasterShut) (e : SourceNo) :
    (s.setShut m).source e = s.source e := rfl
@[simp] theorem State.line_setShut (m : MasterShut) (e : Degree) :
    (s.setShut m).line e = s.line e := rfl
@[simp] theorem State.contact_setShut (m : MasterShut) (e : ContactNo) :
    (s.setShut m).contact e = s.contact e := rfl
@[simp] theorem State.entry_setShut (m : MasterShut) (e : EntryNo) :
    (s.setShut m).entry e = s.entry e := rfl
@[simp] theorem State.limits_setShut (m : MasterShut) (e : Degree) :
    (s.setShut m).limits e = s.limits e := rfl
@[simp] theorem State.span_setClaim (c : ClaimUnit) (e : Degree) :
    (s.setClaim c).span e = s.span e := rfl
@[simp] theorem State.source_setClaim (c : ClaimUnit) (e : SourceNo) :
    (s.setClaim c).source e = s.source e := rfl
@[simp] theorem State.line_setClaim (c : ClaimUnit) (e : Degree) :
    (s.setClaim c).line e = s.line e := rfl
@[simp] theorem State.contact_setClaim (c : ClaimUnit) (e : ContactNo) :
    (s.setClaim c).contact e = s.contact e := rfl
@[simp] theorem State.entry_setClaim (c : ClaimUnit) (e : EntryNo) :
    (s.setClaim c).entry e = s.entry e := rfl
@[simp] theorem State.limits_setClaim (c : ClaimUnit) (e : Degree) :
    (s.setClaim c).limits e = s.limits e := rfl
@[simp] theorem State.span_setCapture (c : CaptureUnit) (e : Degree) :
    (s.setCapture c).span e = s.span e := rfl
@[simp] theorem State.source_setCapture (c : CaptureUnit) (e : SourceNo) :
    (s.setCapture c).source e = s.source e := rfl
@[simp] theorem State.line_setCapture (c : CaptureUnit) (e : Degree) :
    (s.setCapture c).line e = s.line e := rfl
@[simp] theorem State.contact_setCapture (c : CaptureUnit) (e : ContactNo) :
    (s.setCapture c).contact e = s.contact e := rfl
@[simp] theorem State.entry_setCapture (c : CaptureUnit) (e : EntryNo) :
    (s.setCapture c).entry e = s.entry e := rfl
@[simp] theorem State.limits_setCapture (c : CaptureUnit) (e : Degree) :
    (s.setCapture c).limits e = s.limits e := rfl
@[simp] theorem State.span_setLink (l : HostLink) (e : Degree) :
    (s.setLink l).span e = s.span e := rfl
@[simp] theorem State.source_setLink (l : HostLink) (e : SourceNo) :
    (s.setLink l).source e = s.source e := rfl
@[simp] theorem State.line_setLink (l : HostLink) (e : Degree) :
    (s.setLink l).line e = s.line e := rfl
@[simp] theorem State.contact_setLink (l : HostLink) (e : ContactNo) :
    (s.setLink l).contact e = s.contact e := rfl
@[simp] theorem State.entry_setLink (l : HostLink) (e : EntryNo) :
    (s.setLink l).entry e = s.entry e := rfl
@[simp] theorem State.limits_setLink (l : HostLink) (e : Degree) :
    (s.setLink l).limits e = s.limits e := rfl
@[simp] theorem State.span_handGrant (x : GrantEvent) (e : Degree) :
    (s.handGrant x).span e = s.span e := rfl
@[simp] theorem State.source_handGrant (x : GrantEvent) (e : SourceNo) :
    (s.handGrant x).source e = s.source e := rfl
@[simp] theorem State.line_handGrant (x : GrantEvent) (e : Degree) :
    (s.handGrant x).line e = s.line e := rfl
@[simp] theorem State.contact_handGrant (x : GrantEvent) (e : ContactNo) :
    (s.handGrant x).contact e = s.contact e := rfl
@[simp] theorem State.entry_handGrant (x : GrantEvent) (e : EntryNo) :
    (s.handGrant x).entry e = s.entry e := rfl
@[simp] theorem State.limits_handGrant (x : GrantEvent) (e : Degree) :
    (s.handGrant x).limits e = s.limits e := rfl
@[simp] theorem State.span_handSpan (x : SpanEvent) (e : Degree) :
    (s.handSpan x).span e = s.span e := rfl
@[simp] theorem State.source_handSpan (x : SpanEvent) (e : SourceNo) :
    (s.handSpan x).source e = s.source e := rfl
@[simp] theorem State.line_handSpan (x : SpanEvent) (e : Degree) :
    (s.handSpan x).line e = s.line e := rfl
@[simp] theorem State.contact_handSpan (x : SpanEvent) (e : ContactNo) :
    (s.handSpan x).contact e = s.contact e := rfl
@[simp] theorem State.entry_handSpan (x : SpanEvent) (e : EntryNo) :
    (s.handSpan x).entry e = s.entry e := rfl
@[simp] theorem State.limits_handSpan (x : SpanEvent) (e : Degree) :
    (s.handSpan x).limits e = s.limits e := rfl
@[simp] theorem State.span_handLine (d : Degree) (x : LineEvent) (e : Degree) :
    (s.handLine d x).span e = s.span e := rfl
@[simp] theorem State.source_handLine (d : Degree) (x : LineEvent) (e : SourceNo) :
    (s.handLine d x).source e = s.source e := rfl
@[simp] theorem State.line_handLine (d : Degree) (x : LineEvent) (e : Degree) :
    (s.handLine d x).line e = s.line e := rfl
@[simp] theorem State.contact_handLine (d : Degree) (x : LineEvent) (e : ContactNo) :
    (s.handLine d x).contact e = s.contact e := rfl
@[simp] theorem State.entry_handLine (d : Degree) (x : LineEvent) (e : EntryNo) :
    (s.handLine d x).entry e = s.entry e := rfl
@[simp] theorem State.limits_handLine (d : Degree) (x : LineEvent) (e : Degree) :
    (s.handLine d x).limits e = s.limits e := rfl
@[simp] theorem State.span_handSnapshot (x : SnapshotEvent) (e : Degree) :
    (s.handSnapshot x).span e = s.span e := rfl
@[simp] theorem State.source_handSnapshot (x : SnapshotEvent) (e : SourceNo) :
    (s.handSnapshot x).source e = s.source e := rfl
@[simp] theorem State.line_handSnapshot (x : SnapshotEvent) (e : Degree) :
    (s.handSnapshot x).line e = s.line e := rfl
@[simp] theorem State.contact_handSnapshot (x : SnapshotEvent) (e : ContactNo) :
    (s.handSnapshot x).contact e = s.contact e := rfl
@[simp] theorem State.entry_handSnapshot (x : SnapshotEvent) (e : EntryNo) :
    (s.handSnapshot x).entry e = s.entry e := rfl
@[simp] theorem State.limits_handSnapshot (x : SnapshotEvent) (e : Degree) :
    (s.handSnapshot x).limits e = s.limits e := rfl
@[simp] theorem State.span_handForced (d : Degree) (e : Degree) :
    (s.handForced d).span e = s.span e := rfl
@[simp] theorem State.source_handForced (d : Degree) (e : SourceNo) :
    (s.handForced d).source e = s.source e := rfl
@[simp] theorem State.line_handForced (d : Degree) (e : Degree) :
    (s.handForced d).line e = s.line e := rfl
@[simp] theorem State.contact_handForced (d : Degree) (e : ContactNo) :
    (s.handForced d).contact e = s.contact e := rfl
@[simp] theorem State.entry_handForced (d : Degree) (e : EntryNo) :
    (s.handForced d).entry e = s.entry e := rfl
@[simp] theorem State.limits_handForced (d : Degree) (e : Degree) :
    (s.handForced d).limits e = s.limits e := rfl
@[simp] theorem State.span_handZeroing (e : Degree) :
    (s.handZeroing).span e = s.span e := rfl
@[simp] theorem State.source_handZeroing (e : SourceNo) :
    (s.handZeroing).source e = s.source e := rfl
@[simp] theorem State.line_handZeroing (e : Degree) :
    (s.handZeroing).line e = s.line e := rfl
@[simp] theorem State.contact_handZeroing (e : ContactNo) :
    (s.handZeroing).contact e = s.contact e := rfl
@[simp] theorem State.entry_handZeroing (e : EntryNo) :
    (s.handZeroing).entry e = s.entry e := rfl
@[simp] theorem State.limits_handZeroing (e : Degree) :
    (s.handZeroing).limits e = s.limits e := rfl
@[simp] theorem State.span_handNotice (n : Notice) (e : Degree) :
    (s.handNotice n).span e = s.span e := rfl
@[simp] theorem State.source_handNotice (n : Notice) (e : SourceNo) :
    (s.handNotice n).source e = s.source e := rfl
@[simp] theorem State.line_handNotice (n : Notice) (e : Degree) :
    (s.handNotice n).line e = s.line e := rfl
@[simp] theorem State.contact_handNotice (n : Notice) (e : ContactNo) :
    (s.handNotice n).contact e = s.contact e := rfl
@[simp] theorem State.entry_handNotice (n : Notice) (e : EntryNo) :
    (s.handNotice n).entry e = s.entry e := rfl
@[simp] theorem State.limits_handNotice (n : Notice) (e : Degree) :
    (s.handNotice n).limits e = s.limits e := rfl
@[simp] theorem State.span_handBreak (c : BreakCause) (e : Degree) :
    (s.handBreak c).span e = s.span e := rfl
@[simp] theorem State.source_handBreak (c : BreakCause) (e : SourceNo) :
    (s.handBreak c).source e = s.source e := rfl
@[simp] theorem State.line_handBreak (c : BreakCause) (e : Degree) :
    (s.handBreak c).line e = s.line e := rfl
@[simp] theorem State.contact_handBreak (c : BreakCause) (e : ContactNo) :
    (s.handBreak c).contact e = s.contact e := rfl
@[simp] theorem State.entry_handBreak (c : BreakCause) (e : EntryNo) :
    (s.handBreak c).entry e = s.entry e := rfl
@[simp] theorem State.limits_handBreak (c : BreakCause) (e : Degree) :
    (s.handBreak c).limits e = s.limits e := rfl
@[simp] theorem State.span_handSample (d : Degree) (x : Sample) (e : Degree) :
    (s.handSample d x).span e = s.span e := rfl
@[simp] theorem State.source_handSample (d : Degree) (x : Sample) (e : SourceNo) :
    (s.handSample d x).source e = s.source e := rfl
@[simp] theorem State.line_handSample (d : Degree) (x : Sample) (e : Degree) :
    (s.handSample d x).line e = s.line e := rfl
@[simp] theorem State.contact_handSample (d : Degree) (x : Sample) (e : ContactNo) :
    (s.handSample d x).contact e = s.contact e := rfl
@[simp] theorem State.entry_handSample (d : Degree) (x : Sample) (e : EntryNo) :
    (s.handSample d x).entry e = s.entry e := rfl
@[simp] theorem State.limits_handSample (d : Degree) (x : Sample) (e : Degree) :
    (s.handSample d x).limits e = s.limits e := rfl
@[simp] theorem State.span_handTrigger (d : Degree) (k : Key) (e : Degree) :
    (s.handTrigger d k).span e = s.span e := rfl
@[simp] theorem State.source_handTrigger (d : Degree) (k : Key) (e : SourceNo) :
    (s.handTrigger d k).source e = s.source e := rfl
@[simp] theorem State.line_handTrigger (d : Degree) (k : Key) (e : Degree) :
    (s.handTrigger d k).line e = s.line e := rfl
@[simp] theorem State.contact_handTrigger (d : Degree) (k : Key) (e : ContactNo) :
    (s.handTrigger d k).contact e = s.contact e := rfl
@[simp] theorem State.entry_handTrigger (d : Degree) (k : Key) (e : EntryNo) :
    (s.handTrigger d k).entry e = s.entry e := rfl
@[simp] theorem State.limits_handTrigger (d : Degree) (k : Key) (e : Degree) :
    (s.handTrigger d k).limits e = s.limits e := rfl
@[simp] theorem State.span_handReport (r : Report) (b : Bool) (e : Degree) :
    (s.handReport r b).span e = s.span e := rfl
@[simp] theorem State.source_handReport (r : Report) (b : Bool) (e : SourceNo) :
    (s.handReport r b).source e = s.source e := rfl
@[simp] theorem State.line_handReport (r : Report) (b : Bool) (e : Degree) :
    (s.handReport r b).line e = s.line e := rfl
@[simp] theorem State.contact_handReport (r : Report) (b : Bool) (e : ContactNo) :
    (s.handReport r b).contact e = s.contact e := rfl
@[simp] theorem State.entry_handReport (r : Report) (b : Bool) (e : EntryNo) :
    (s.handReport r b).entry e = s.entry e := rfl
@[simp] theorem State.limits_handReport (r : Report) (b : Bool) (e : Degree) :
    (s.handReport r b).limits e = s.limits e := rfl
@[simp] theorem State.span_handFrame (f : Frame) (e : Degree) :
    (s.handFrame f).span e = s.span e := rfl
@[simp] theorem State.source_handFrame (f : Frame) (e : SourceNo) :
    (s.handFrame f).source e = s.source e := rfl
@[simp] theorem State.line_handFrame (f : Frame) (e : Degree) :
    (s.handFrame f).line e = s.line e := rfl
@[simp] theorem State.contact_handFrame (f : Frame) (e : ContactNo) :
    (s.handFrame f).contact e = s.contact e := rfl
@[simp] theorem State.entry_handFrame (f : Frame) (e : EntryNo) :
    (s.handFrame f).entry e = s.entry e := rfl
@[simp] theorem State.limits_handFrame (f : Frame) (e : Degree) :
    (s.handFrame f).limits e = s.limits e := rfl

end Sys2Proof.Machine
end

