-- ==== Sys2Proof/Laws/Frames.lean ====
section
/-! SUPPORT. Which blocks each shared operation can change. A side names the blocks; an operation on that side leaves every
other field of the state as it stands. -/

namespace Sys2Proof.Machine

/-- `t` differs from `s` only in the grant unit and what is in transit. -/
def GrantSide (s t : State) : Prop := t = { s with grant := t.grant, transit := t.transit }

theorem GrantSide.refl (s : State) : GrantSide s s := rfl

theorem GrantSide.trans {s t u : State} (h : GrantSide s t) (k : GrantSide t u) : GrantSide s u := by
  unfold GrantSide at *
  rw [k, h]

theorem GrantSide.foldl {α : Type} {f : State → α → State} (h : ∀ s x, GrantSide s (f s x)) (l : List α) (s : State) :
    GrantSide s (l.foldl f s) := by
  induction l generalizing s with
  | nil => exact .refl s
  | cons x l ih => exact (h s x).trans (ih (f s x))

theorem GrantSide.now {s t : State} (h : GrantSide s t) : t.now = s.now := by
  unfold GrantSide at h
  rw [h]
theorem GrantSide.front {s t : State} (h : GrantSide s t) : t.front = s.front := by
  unfold GrantSide at h
  rw [h]
theorem GrantSide.cond {s t : State} (h : GrantSide s t) : t.cond = s.cond := by
  unfold GrantSide at h
  rw [h]
theorem GrantSide.map {s t : State} (h : GrantSide s t) : t.map = s.map := by
  unfold GrantSide at h
  rw [h]
theorem GrantSide.ctrl {s t : State} (h : GrantSide s t) : t.ctrl = s.ctrl := by
  unfold GrantSide at h
  rw [h]
theorem GrantSide.words {s t : State} (h : GrantSide s t) : t.words = s.words := by
  unfold GrantSide at h
  rw [h]
theorem GrantSide.store {s t : State} (h : GrantSide s t) : t.store = s.store := by
  unfold GrantSide at h
  rw [h]
theorem GrantSide.claim {s t : State} (h : GrantSide s t) : t.claim = s.claim := by
  unfold GrantSide at h
  rw [h]
theorem GrantSide.capture {s t : State} (h : GrantSide s t) : t.capture = s.capture := by
  unfold GrantSide at h
  rw [h]
theorem GrantSide.link {s t : State} (h : GrantSide s t) : t.link = s.link := by
  unfold GrantSide at h
  rw [h]
theorem GrantSide.port {s t : State} (h : GrantSide s t) : t.port = s.port := by
  unfold GrantSide at h
  rw [h]
theorem GrantSide.freeIndex {s t : State} (h : GrantSide s t) : t.freeIndex = s.freeIndex := by
  unfold GrantSide at h
  rw [h]
theorem GrantSide.pending {s t : State} (h : GrantSide s t) : t.pending = s.pending := by
  unfold GrantSide at h
  rw [h]

/-- `t` differs from `s` only in the span controller, the grant unit and what is in transit. -/
def CtrlSide (s t : State) : Prop := t = { s with ctrl := t.ctrl, grant := t.grant, transit := t.transit }

theorem CtrlSide.refl (s : State) : CtrlSide s s := rfl

theorem CtrlSide.trans {s t u : State} (h : CtrlSide s t) (k : CtrlSide t u) : CtrlSide s u := by
  unfold CtrlSide at *
  rw [k, h]

theorem CtrlSide.foldl {α : Type} {f : State → α → State} (h : ∀ s x, CtrlSide s (f s x)) (l : List α) (s : State) :
    CtrlSide s (l.foldl f s) := by
  induction l generalizing s with
  | nil => exact .refl s
  | cons x l ih => exact (h s x).trans (ih (f s x))

theorem CtrlSide.now {s t : State} (h : CtrlSide s t) : t.now = s.now := by
  unfold CtrlSide at h
  rw [h]
theorem CtrlSide.front {s t : State} (h : CtrlSide s t) : t.front = s.front := by
  unfold CtrlSide at h
  rw [h]
theorem CtrlSide.cond {s t : State} (h : CtrlSide s t) : t.cond = s.cond := by
  unfold CtrlSide at h
  rw [h]
theorem CtrlSide.map {s t : State} (h : CtrlSide s t) : t.map = s.map := by
  unfold CtrlSide at h
  rw [h]
theorem CtrlSide.words {s t : State} (h : CtrlSide s t) : t.words = s.words := by
  unfold CtrlSide at h
  rw [h]
theorem CtrlSide.store {s t : State} (h : CtrlSide s t) : t.store = s.store := by
  unfold CtrlSide at h
  rw [h]
theorem CtrlSide.claim {s t : State} (h : CtrlSide s t) : t.claim = s.claim := by
  unfold CtrlSide at h
  rw [h]
theorem CtrlSide.capture {s t : State} (h : CtrlSide s t) : t.capture = s.capture := by
  unfold CtrlSide at h
  rw [h]
theorem CtrlSide.link {s t : State} (h : CtrlSide s t) : t.link = s.link := by
  unfold CtrlSide at h
  rw [h]
theorem CtrlSide.port {s t : State} (h : CtrlSide s t) : t.port = s.port := by
  unfold CtrlSide at h
  rw [h]
theorem CtrlSide.freeIndex {s t : State} (h : CtrlSide s t) : t.freeIndex = s.freeIndex := by
  unfold CtrlSide at h
  rw [h]
theorem CtrlSide.pending {s t : State} (h : CtrlSide s t) : t.pending = s.pending := by
  unfold CtrlSide at h
  rw [h]

/-- `t` differs from `s` only in the condition unit, the hazard map and what is in transit. -/
def CondSide (s t : State) : Prop := t = { s with cond := t.cond, map := t.map, transit := t.transit }

theorem CondSide.refl (s : State) : CondSide s s := rfl

theorem CondSide.trans {s t u : State} (h : CondSide s t) (k : CondSide t u) : CondSide s u := by
  unfold CondSide at *
  rw [k, h]

theorem CondSide.foldl {α : Type} {f : State → α → State} (h : ∀ s x, CondSide s (f s x)) (l : List α) (s : State) :
    CondSide s (l.foldl f s) := by
  induction l generalizing s with
  | nil => exact .refl s
  | cons x l ih => exact (h s x).trans (ih (f s x))

theorem CondSide.now {s t : State} (h : CondSide s t) : t.now = s.now := by
  unfold CondSide at h
  rw [h]
theorem CondSide.front {s t : State} (h : CondSide s t) : t.front = s.front := by
  unfold CondSide at h
  rw [h]
theorem CondSide.grant {s t : State} (h : CondSide s t) : t.grant = s.grant := by
  unfold CondSide at h
  rw [h]
theorem CondSide.ctrl {s t : State} (h : CondSide s t) : t.ctrl = s.ctrl := by
  unfold CondSide at h
  rw [h]
theorem CondSide.words {s t : State} (h : CondSide s t) : t.words = s.words := by
  unfold CondSide at h
  rw [h]
theorem CondSide.store {s t : State} (h : CondSide s t) : t.store = s.store := by
  unfold CondSide at h
  rw [h]
theorem CondSide.claim {s t : State} (h : CondSide s t) : t.claim = s.claim := by
  unfold CondSide at h
  rw [h]
theorem CondSide.capture {s t : State} (h : CondSide s t) : t.capture = s.capture := by
  unfold CondSide at h
  rw [h]
theorem CondSide.link {s t : State} (h : CondSide s t) : t.link = s.link := by
  unfold CondSide at h
  rw [h]
theorem CondSide.port {s t : State} (h : CondSide s t) : t.port = s.port := by
  unfold CondSide at h
  rw [h]
theorem CondSide.freeIndex {s t : State} (h : CondSide s t) : t.freeIndex = s.freeIndex := by
  unfold CondSide at h
  rw [h]
theorem CondSide.pending {s t : State} (h : CondSide s t) : t.pending = s.pending := by
  unfold CondSide at h
  rw [h]

/-- `t` differs from `s` only in the span word unit, the condition unit, the hazard map and what is in transit. -/
def LineSide (s t : State) : Prop := t = { s with cond := t.cond, map := t.map, words := t.words, transit := t.transit }

theorem LineSide.refl (s : State) : LineSide s s := rfl

theorem LineSide.trans {s t u : State} (h : LineSide s t) (k : LineSide t u) : LineSide s u := by
  unfold LineSide at *
  rw [k, h]

theorem LineSide.foldl {α : Type} {f : State → α → State} (h : ∀ s x, LineSide s (f s x)) (l : List α) (s : State) :
    LineSide s (l.foldl f s) := by
  induction l generalizing s with
  | nil => exact .refl s
  | cons x l ih => exact (h s x).trans (ih (f s x))

theorem LineSide.now {s t : State} (h : LineSide s t) : t.now = s.now := by
  unfold LineSide at h
  rw [h]
theorem LineSide.front {s t : State} (h : LineSide s t) : t.front = s.front := by
  unfold LineSide at h
  rw [h]
theorem LineSide.grant {s t : State} (h : LineSide s t) : t.grant = s.grant := by
  unfold LineSide at h
  rw [h]
theorem LineSide.ctrl {s t : State} (h : LineSide s t) : t.ctrl = s.ctrl := by
  unfold LineSide at h
  rw [h]
theorem LineSide.store {s t : State} (h : LineSide s t) : t.store = s.store := by
  unfold LineSide at h
  rw [h]
theorem LineSide.claim {s t : State} (h : LineSide s t) : t.claim = s.claim := by
  unfold LineSide at h
  rw [h]
theorem LineSide.capture {s t : State} (h : LineSide s t) : t.capture = s.capture := by
  unfold LineSide at h
  rw [h]
theorem LineSide.link {s t : State} (h : LineSide s t) : t.link = s.link := by
  unfold LineSide at h
  rw [h]
theorem LineSide.port {s t : State} (h : LineSide s t) : t.port = s.port := by
  unfold LineSide at h
  rw [h]
theorem LineSide.freeIndex {s t : State} (h : LineSide s t) : t.freeIndex = s.freeIndex := by
  unfold LineSide at h
  rw [h]
theorem LineSide.pending {s t : State} (h : LineSide s t) : t.pending = s.pending := by
  unfold LineSide at h
  rw [h]

/-- `t` differs from `s` only in what is in transit. -/
def TransitSide (s t : State) : Prop := t = { s with transit := t.transit }

theorem TransitSide.refl (s : State) : TransitSide s s := rfl

theorem TransitSide.trans {s t u : State} (h : TransitSide s t) (k : TransitSide t u) : TransitSide s u := by
  unfold TransitSide at *
  rw [k, h]

theorem TransitSide.foldl {α : Type} {f : State → α → State} (h : ∀ s x, TransitSide s (f s x)) (l : List α) (s : State) :
    TransitSide s (l.foldl f s) := by
  induction l generalizing s with
  | nil => exact .refl s
  | cons x l ih => exact (h s x).trans (ih (f s x))

theorem TransitSide.now {s t : State} (h : TransitSide s t) : t.now = s.now := by
  unfold TransitSide at h
  rw [h]
theorem TransitSide.front {s t : State} (h : TransitSide s t) : t.front = s.front := by
  unfold TransitSide at h
  rw [h]
theorem TransitSide.cond {s t : State} (h : TransitSide s t) : t.cond = s.cond := by
  unfold TransitSide at h
  rw [h]
theorem TransitSide.map {s t : State} (h : TransitSide s t) : t.map = s.map := by
  unfold TransitSide at h
  rw [h]
theorem TransitSide.grant {s t : State} (h : TransitSide s t) : t.grant = s.grant := by
  unfold TransitSide at h
  rw [h]
theorem TransitSide.ctrl {s t : State} (h : TransitSide s t) : t.ctrl = s.ctrl := by
  unfold TransitSide at h
  rw [h]
theorem TransitSide.words {s t : State} (h : TransitSide s t) : t.words = s.words := by
  unfold TransitSide at h
  rw [h]
theorem TransitSide.store {s t : State} (h : TransitSide s t) : t.store = s.store := by
  unfold TransitSide at h
  rw [h]
theorem TransitSide.claim {s t : State} (h : TransitSide s t) : t.claim = s.claim := by
  unfold TransitSide at h
  rw [h]
theorem TransitSide.capture {s t : State} (h : TransitSide s t) : t.capture = s.capture := by
  unfold TransitSide at h
  rw [h]
theorem TransitSide.link {s t : State} (h : TransitSide s t) : t.link = s.link := by
  unfold TransitSide at h
  rw [h]
theorem TransitSide.port {s t : State} (h : TransitSide s t) : t.port = s.port := by
  unfold TransitSide at h
  rw [h]
theorem TransitSide.freeIndex {s t : State} (h : TransitSide s t) : t.freeIndex = s.freeIndex := by
  unfold TransitSide at h
  rw [h]
theorem TransitSide.pending {s t : State} (h : TransitSide s t) : t.pending = s.pending := by
  unfold TransitSide at h
  rw [h]

/-- `t` differs from `s` only in the host link unit and the port. -/
def ReplySide (s t : State) : Prop := t = { s with link := t.link, port := t.port }

theorem ReplySide.refl (s : State) : ReplySide s s := rfl

theorem ReplySide.trans {s t u : State} (h : ReplySide s t) (k : ReplySide t u) : ReplySide s u := by
  unfold ReplySide at *
  rw [k, h]

theorem ReplySide.foldl {α : Type} {f : State → α → State} (h : ∀ s x, ReplySide s (f s x)) (l : List α) (s : State) :
    ReplySide s (l.foldl f s) := by
  induction l generalizing s with
  | nil => exact .refl s
  | cons x l ih => exact (h s x).trans (ih (f s x))

theorem ReplySide.now {s t : State} (h : ReplySide s t) : t.now = s.now := by
  unfold ReplySide at h
  rw [h]
theorem ReplySide.front {s t : State} (h : ReplySide s t) : t.front = s.front := by
  unfold ReplySide at h
  rw [h]
theorem ReplySide.cond {s t : State} (h : ReplySide s t) : t.cond = s.cond := by
  unfold ReplySide at h
  rw [h]
theorem ReplySide.map {s t : State} (h : ReplySide s t) : t.map = s.map := by
  unfold ReplySide at h
  rw [h]
theorem ReplySide.grant {s t : State} (h : ReplySide s t) : t.grant = s.grant := by
  unfold ReplySide at h
  rw [h]
theorem ReplySide.ctrl {s t : State} (h : ReplySide s t) : t.ctrl = s.ctrl := by
  unfold ReplySide at h
  rw [h]
theorem ReplySide.words {s t : State} (h : ReplySide s t) : t.words = s.words := by
  unfold ReplySide at h
  rw [h]
theorem ReplySide.store {s t : State} (h : ReplySide s t) : t.store = s.store := by
  unfold ReplySide at h
  rw [h]
theorem ReplySide.claim {s t : State} (h : ReplySide s t) : t.claim = s.claim := by
  unfold ReplySide at h
  rw [h]
theorem ReplySide.capture {s t : State} (h : ReplySide s t) : t.capture = s.capture := by
  unfold ReplySide at h
  rw [h]
theorem ReplySide.transit {s t : State} (h : ReplySide s t) : t.transit = s.transit := by
  unfold ReplySide at h
  rw [h]
theorem ReplySide.freeIndex {s t : State} (h : ReplySide s t) : t.freeIndex = s.freeIndex := by
  unfold ReplySide at h
  rw [h]
theorem ReplySide.pending {s t : State} (h : ReplySide s t) : t.pending = s.pending := by
  unfold ReplySide at h
  rw [h]

/-- `t` differs from `s` only in the claim unit. -/
def ClaimSide (s t : State) : Prop := t = { s with claim := t.claim }

theorem ClaimSide.refl (s : State) : ClaimSide s s := rfl

theorem ClaimSide.trans {s t u : State} (h : ClaimSide s t) (k : ClaimSide t u) : ClaimSide s u := by
  unfold ClaimSide at *
  rw [k, h]

theorem ClaimSide.foldl {α : Type} {f : State → α → State} (h : ∀ s x, ClaimSide s (f s x)) (l : List α) (s : State) :
    ClaimSide s (l.foldl f s) := by
  induction l generalizing s with
  | nil => exact .refl s
  | cons x l ih => exact (h s x).trans (ih (f s x))

theorem ClaimSide.now {s t : State} (h : ClaimSide s t) : t.now = s.now := by
  unfold ClaimSide at h
  rw [h]
theorem ClaimSide.front {s t : State} (h : ClaimSide s t) : t.front = s.front := by
  unfold ClaimSide at h
  rw [h]
theorem ClaimSide.cond {s t : State} (h : ClaimSide s t) : t.cond = s.cond := by
  unfold ClaimSide at h
  rw [h]
theorem ClaimSide.map {s t : State} (h : ClaimSide s t) : t.map = s.map := by
  unfold ClaimSide at h
  rw [h]
theorem ClaimSide.grant {s t : State} (h : ClaimSide s t) : t.grant = s.grant := by
  unfold ClaimSide at h
  rw [h]
theorem ClaimSide.ctrl {s t : State} (h : ClaimSide s t) : t.ctrl = s.ctrl := by
  unfold ClaimSide at h
  rw [h]
theorem ClaimSide.words {s t : State} (h : ClaimSide s t) : t.words = s.words := by
  unfold ClaimSide at h
  rw [h]
theorem ClaimSide.store {s t : State} (h : ClaimSide s t) : t.store = s.store := by
  unfold ClaimSide at h
  rw [h]
theorem ClaimSide.capture {s t : State} (h : ClaimSide s t) : t.capture = s.capture := by
  unfold ClaimSide at h
  rw [h]
theorem ClaimSide.link {s t : State} (h : ClaimSide s t) : t.link = s.link := by
  unfold ClaimSide at h
  rw [h]
theorem ClaimSide.transit {s t : State} (h : ClaimSide s t) : t.transit = s.transit := by
  unfold ClaimSide at h
  rw [h]
theorem ClaimSide.port {s t : State} (h : ClaimSide s t) : t.port = s.port := by
  unfold ClaimSide at h
  rw [h]
theorem ClaimSide.freeIndex {s t : State} (h : ClaimSide s t) : t.freeIndex = s.freeIndex := by
  unfold ClaimSide at h
  rw [h]
theorem ClaimSide.pending {s t : State} (h : ClaimSide s t) : t.pending = s.pending := by
  unfold ClaimSide at h
  rw [h]

/-- `t` differs from `s` only in the claim unit, the span controller, the grant unit and what is in transit. -/
def CommitSide (s t : State) : Prop := t = { s with claim := t.claim, ctrl := t.ctrl, grant := t.grant, transit := t.transit }

theorem CommitSide.refl (s : State) : CommitSide s s := rfl

theorem CommitSide.trans {s t u : State} (h : CommitSide s t) (k : CommitSide t u) : CommitSide s u := by
  unfold CommitSide at *
  rw [k, h]

theorem CommitSide.foldl {α : Type} {f : State → α → State} (h : ∀ s x, CommitSide s (f s x)) (l : List α) (s : State) :
    CommitSide s (l.foldl f s) := by
  induction l generalizing s with
  | nil => exact .refl s
  | cons x l ih => exact (h s x).trans (ih (f s x))

theorem CommitSide.now {s t : State} (h : CommitSide s t) : t.now = s.now := by
  unfold CommitSide at h
  rw [h]
theorem CommitSide.front {s t : State} (h : CommitSide s t) : t.front = s.front := by
  unfold CommitSide at h
  rw [h]
theorem CommitSide.cond {s t : State} (h : CommitSide s t) : t.cond = s.cond := by
  unfold CommitSide at h
  rw [h]
theorem CommitSide.map {s t : State} (h : CommitSide s t) : t.map = s.map := by
  unfold CommitSide at h
  rw [h]
theorem CommitSide.words {s t : State} (h : CommitSide s t) : t.words = s.words := by
  unfold CommitSide at h
  rw [h]
theorem CommitSide.store {s t : State} (h : CommitSide s t) : t.store = s.store := by
  unfold CommitSide at h
  rw [h]
theorem CommitSide.capture {s t : State} (h : CommitSide s t) : t.capture = s.capture := by
  unfold CommitSide at h
  rw [h]
theorem CommitSide.link {s t : State} (h : CommitSide s t) : t.link = s.link := by
  unfold CommitSide at h
  rw [h]
theorem CommitSide.port {s t : State} (h : CommitSide s t) : t.port = s.port := by
  unfold CommitSide at h
  rw [h]
theorem CommitSide.freeIndex {s t : State} (h : CommitSide s t) : t.freeIndex = s.freeIndex := by
  unfold CommitSide at h
  rw [h]
theorem CommitSide.pending {s t : State} (h : CommitSide s t) : t.pending = s.pending := by
  unfold CommitSide at h
  rw [h]

theorem GrantSide.toCtrlSide {s t : State} (h : GrantSide s t) : CtrlSide s t := by
  unfold GrantSide at h
  unfold CtrlSide
  rw [h]

theorem GrantSide.toCommitSide {s t : State} (h : GrantSide s t) : CommitSide s t := by
  unfold GrantSide at h
  unfold CommitSide
  rw [h]

theorem CtrlSide.toCommitSide {s t : State} (h : CtrlSide s t) : CommitSide s t := by
  unfold CtrlSide at h
  unfold CommitSide
  rw [h]

theorem CondSide.toLineSide {s t : State} (h : CondSide s t) : LineSide s t := by
  unfold CondSide at h
  unfold LineSide
  rw [h]

theorem TransitSide.toGrantSide {s t : State} (h : TransitSide s t) : GrantSide s t := by
  unfold TransitSide at h
  unfold GrantSide
  rw [h]

theorem TransitSide.toCtrlSide {s t : State} (h : TransitSide s t) : CtrlSide s t := by
  unfold TransitSide at h
  unfold CtrlSide
  rw [h]

theorem TransitSide.toCondSide {s t : State} (h : TransitSide s t) : CondSide s t := by
  unfold TransitSide at h
  unfold CondSide
  rw [h]

theorem TransitSide.toLineSide {s t : State} (h : TransitSide s t) : LineSide s t := by
  unfold TransitSide at h
  unfold LineSide
  rw [h]

theorem TransitSide.toCommitSide {s t : State} (h : TransitSide s t) : CommitSide s t := by
  unfold TransitSide at h
  unfold CommitSide
  rw [h]

theorem ClaimSide.toCommitSide {s t : State} (h : ClaimSide s t) : CommitSide s t := by
  unfold ClaimSide at h
  unfold CommitSide
  rw [h]

/-! ### The grant unit's operations -/

theorem State.recompute_side (a : Bool) (s : State) (i : SourceNo) : GrantSide s (s.recompute a i) := by
  unfold State.recompute
  dsimp only
  split
  · exact .refl s
  · split <;> rfl

theorem State.recomputeAll_side (a : Bool) (s : State) (l : List SourceNo) : GrantSide s (s.recomputeAll a l) :=
  GrantSide.foldl (State.recompute_side a) l s

theorem State.updateSource_side (f : Source → Source) (s : State) (i : SourceNo) :
    GrantSide s (State.updateSource f s i) :=
  GrantSide.trans (t := s.setSource i (f (s.source i))) rfl (State.recompute_side false _ i)

theorem State.restrict_side (s : State) (t : Target) (c : Ceiling) (p : Persistence) (o : Origin) :
    GrantSide s (s.restrict t c p o) :=
  GrantSide.foldl (State.updateSource_side _) _ s

/-! ### The span controller's operations -/

theorem State.handForcedIf_side (s : State) (d : Degree) (b : Bool) : TransitSide s (s.handForcedIf d b) := by
  unfold State.handForcedIf
  split <;> rfl

theorem State.handCutTrigger_side (s : State) (d : Degree) (o n : SpanState) (k : Option Key) :
    TransitSide s (s.handCutTrigger d o n k) := by
  unfold State.handCutTrigger
  split
  · split <;> rfl
  · rfl

theorem State.moveSpan_side (s : State) (d : Degree) (n : SpanState) (c : SpanCause) (f : Span → Span)
    (k : Option Key) : CtrlSide s (s.moveSpan d n c f k) := by
  unfold State.moveSpan
  refine CtrlSide.trans ?_ (rfl : CtrlSide _ (State.handNotice _ _))
  refine CtrlSide.trans ?_ (State.handCutTrigger_side ..).toCtrlSide
  refine CtrlSide.trans ?_ (State.handForcedIf_side ..).toCtrlSide
  refine CtrlSide.trans ?_ (State.recomputeAll_side ..).toCtrlSide
  rfl

theorem State.enterDark_side (s : State) (d : Degree) (c : SpanCause) (f : Span → Span) (k : Option Key) :
    CtrlSide s (s.enterDark d c f k) := State.moveSpan_side ..

theorem State.enterProbe_side (s : State) (d : Degree) (c : SpanCause) (f : Span → Span) :
    CtrlSide s (s.enterProbe d c f) := State.moveSpan_side ..

theorem State.settleInAwait_side (s : State) (d : Degree) : CtrlSide s (s.settleInAwait d) := by
  unfold State.settleInAwait
  split
  · exact State.enterDark_side ..
  · split <;> rfl

theorem State.enterAwait_side (s : State) (d : Degree) (c : SpanCause) (f : Span → Span) :
    CtrlSide s (s.enterAwait d c f) := by
  unfold State.enterAwait
  split
  · exact State.moveSpan_side ..
  · exact CtrlSide.trans (State.moveSpan_side ..) (State.settleInAwait_side _ d)

theorem State.takeCut_side (s : State) (d : Degree) (k : Key) : CtrlSide s (s.takeCut d k) := by
  unfold State.takeCut
  refine CtrlSide.trans (t := s.setSpan d ((s.span d).see d k true)) rfl ?_
  dsimp only
  split
  · exact State.enterDark_side ..
  · split
    · exact State.moveSpan_side ..
    · exact State.enterDark_side ..
  · split
    · exact State.moveSpan_side ..
    · exact State.enterDark_side ..
  all_goals exact .refl _

theorem State.takeLock_side (s : State) (d : Degree) (c : LockCause) : CtrlSide s (s.takeLock d c) := by
  unfold State.takeLock
  split
  · split <;> rfl
  · exact State.moveSpan_side ..

theorem State.reexamine_side (s : State) (d : Degree) : CtrlSide s (s.reexamine d) := by
  unfold State.reexamine
  dsimp only
  split
  · rfl
  · rfl
  · exact State.enterDark_side ..
  · rfl

theorem State.testConfirmation_side (s : State) (d : Degree) (far : Option FarWord) :
    CtrlSide s (s.testConfirmation d far) := by
  unfold State.testConfirmation
  split
  · split <;> exact State.moveSpan_side ..
  · exact .refl s

theorem State.setRole_side (s : State) (d : Degree) (far : Option FarWord) : CtrlSide s (s.setRole d far) := by
  unfold State.setRole
  dsimp only
  split
  · exact CtrlSide.trans (t := s.setSpan d { s.span d with role := roleAgainst s.words.own far }) rfl (State.moveSpan_side ..)
  · rfl

theorem State.takeSpanClear_side (s : State) (k : Key) (w : DegSet) : CtrlSide s (s.takeSpanClear k w) := by
  unfold State.takeSpanClear
  dsimp only
  have h1 : CtrlSide s (match k.degree with
    | some d => s.setSpan d ((s.span d).see d k false)
    | none => s) := by split <;> rfl
  have h2 := h1.trans (CtrlSide.foldl State.reexamine_side (DegSet.toList w) _)
  split
  · exact h2.trans (State.testConfirmation_side _ _ _)
  · exact h2

theorem State.withdrawOn_side (s : State) (d : Degree) (w : FarWord) : CtrlSide s (s.withdrawOn d w) := by
  unfold State.withdrawOn
  split <;> rfl

theorem State.replyProbe_side (s : State) (d : Degree) (w : FarWord) : CtrlSide s (s.replyProbe d w) := by
  unfold State.replyProbe
  split
  · exact State.enterProbe_side ..
  · rfl

theorem State.farRequest_side (s : State) (d : Degree) (w : FarWord) : CtrlSide s (s.farRequest d w) := by
  unfold State.farRequest
  split
  · exact State.enterProbe_side ..
  · rfl

theorem State.takeFarWord_side (s : State) (d : Degree) (w : FarWord) : CtrlSide s (s.takeFarWord d w) :=
  ((((State.setRole_side s d _).trans (State.withdrawOn_side _ d w)).trans (State.replyProbe_side _ d w)).trans
    (State.farRequest_side _ d w)).trans (State.testConfirmation_side _ d _)

theorem State.takeOrdinalChange_side (s : State) (d : Degree) (b : Bool) : CtrlSide s (s.takeOrdinalChange d b) := by
  unfold State.takeOrdinalChange
  split
  · exact (State.reexamine_side s d).trans (State.setRole_side _ d _)
  · exact State.setRole_side s d _

theorem State.stepRamp_side (s : State) (d : Degree) : CtrlSide s (s.stepRamp d) := by
  unfold State.stepRamp
  dsimp only
  split
  · exact State.moveSpan_side ..
  · refine CtrlSide.trans ?_ (State.recomputeAll_side ..).toCtrlSide
    rfl

theorem State.failProbe_side (s : State) (d : Degree) : CtrlSide s (s.failProbe d) := by
  unfold State.failProbe
  dsimp only
  split
  · exact State.moveSpan_side ..
  · exact State.enterAwait_side ..

theorem State.intervalInAwait_side (s : State) (d : Degree) : CtrlSide s (s.intervalInAwait d) := by
  unfold State.intervalInAwait
  dsimp only
  split
  · split
    · exact State.enterProbe_side ..
    · rfl
    · rfl
  · rfl

theorem State.release_side (c : SpanCause) (s : State) (d : Degree) : CtrlSide s (State.release c s d) :=
  State.enterDark_side ..

theorem State.probeManually_side (n : Nat) (s : State) (d : Degree) : CtrlSide s (State.probeManually n s d) :=
  State.moveSpan_side ..

/-! ### The condition unit's operations -/

theorem State.raise_side (s : State) (k : Key) : CondSide s (s.raise k) := by
  unfold State.raise
  split
  · split <;> rfl
  · rfl

theorem State.takeWaitingRaise_side (s : State) (k : Key) : CondSide s (s.takeWaitingRaise k) := by
  unfold State.takeWaitingRaise
  split
  · split
    · refine CondSide.trans ?_ (State.raise_side ..)
      rfl
    · rfl
  · rfl
  · rfl

theorem State.takeClear_side (s : State) (r : CondRecord) (c : ClearCause) : CondSide s (s.takeClear r c) := by
  unfold State.takeClear
  exact CondSide.trans (t := (((((s.setActive (s.cond.active.filter fun x => x.key != r.key)).handReport
    (.cleared r.key s.now c) false).handGrant (.clear r.key)).handSpan (.clear r.key r.withheld)).touch
    r.key.degree).handNotice (.condition r.key.degree)) rfl (State.takeWaitingRaise_side _ _)

theorem State.clearDue_side (s : State) (k : Key) (c : ClearCause) : CondSide s (s.clearDue k c) := by
  unfold State.clearDue
  split
  · rfl
  · split
    · rfl
    · exact State.takeClear_side ..

theorem State.decided_side (s : State) (k : Key) (o : Option Bool) : CondSide s (s.decided k o) := by
  unfold State.decided
  split
  · exact State.raise_side ..
  · exact State.clearDue_side ..
  · rfl

theorem State.feedDark_side (s : State) (d : Degree) (v : Int) : CondSide s (s.feedDark d v) := by
  unfold State.feedDark
  refine CondSide.trans ?_ (State.decided_side ..)
  rfl

theorem State.feedReflect_side (s : State) (d : Degree) (x : Ratio) : CondSide s (s.feedReflect d x) := by
  unfold State.feedReflect
  refine CondSide.trans ?_ (State.decided_side ..)
  rfl

theorem State.feedPump_side (s : State) (d : Degree) (v : Int) : CondSide s (s.feedPump d v) := by
  unfold State.feedPump
  refine CondSide.trans ?_ (State.decided_side ..)
  rfl

theorem State.feedFault_side (s : State) (c : ChannelNo) (b : Bool) : CondSide s (s.feedFault c b) := by
  unfold State.feedFault
  refine CondSide.trans ?_ (State.decided_side ..)
  rfl

theorem State.contactRaise_side (s : State) (n : ContactNo) (k : Key) : CondSide s (s.contactRaise n k) := by
  unfold State.contactRaise
  split
  · split
    · rfl
    · exact State.raise_side ..
  · exact State.raise_side ..

theorem State.contactClear_side (s : State) (n : ContactNo) (c : ClearCause) : CondSide s (s.contactClear n c) := by
  unfold State.contactClear
  split
  · rfl
  · split
    · split
      · rfl
      · exact State.clearDue_side ..
    · rfl

theorem State.handReexaminations_side (s : State) (m : DegSet) : TransitSide s (s.handReexaminations m) :=
  TransitSide.foldl (f := fun s d => State.handSpan s (.reexamine d)) (fun _ _ => rfl) _ s

theorem State.writeSnapshot_side (s : State) (k : Key) (m : List EntryNo) (w : DegSet) :
    CondSide s (s.writeSnapshot k m w) := by
  unfold State.writeSnapshot
  split
  · rfl
  · dsimp only
    split
    · refine CondSide.trans ?_ (State.takeClear_side ..)
      refine CondSide.trans ?_ (State.handReexaminations_side ..).toCondSide
      rfl
    · refine CondSide.trans ?_ (State.handReexaminations_side ..).toCondSide
      rfl

theorem State.rewriteSnapshot_side (s : State) (k : Key) (m : List EntryNo) (w : DegSet) :
    CondSide s (s.rewriteSnapshot k m w) := by
  unfold State.rewriteSnapshot
  split
  · rfl
  · split
    · rfl
    · refine CondSide.trans ?_ (State.handReexaminations_side ..).toCondSide
      rfl

/-! ### The span word unit's operations -/

theorem State.lineDecides_side (s : State) (k : Key) (a b : Bool) : CondSide s (s.lineDecides k a b) := by
  unfold State.lineDecides
  split
  · exact State.raise_side ..
  · split
    · exact State.clearDue_side ..
    · rfl

theorem State.acceptWord_side (s : State) (d : Degree) (w : FarWord) : LineSide s (s.acceptWord d w) := by
  unfold State.acceptWord
  dsimp only
  refine LineSide.trans ?_ (rfl : LineSide _ (State.handLine _ _ _))
  refine LineSide.trans ?_ (State.lineDecides_side ..).toLineSide
  refine LineSide.trans ?_ (State.lineDecides_side ..).toLineSide
  refine LineSide.trans ?_ (State.lineDecides_side ..).toLineSide
  rfl

theorem State.recoverWord_side (s : State) (d : Degree) (w : FarWord) : LineSide s (s.recoverWord d w) := by
  unfold State.recoverWord
  dsimp only
  split
  · rfl
  · refine LineSide.trans ?_ (State.acceptWord_side ..)
    refine LineSide.trans ?_ (State.clearDue_side ..).toLineSide
    rfl

theorem State.mismatchWord_side (s : State) (d : Degree) : LineSide s (s.mismatchWord d) := by
  unfold State.mismatchWord
  dsimp only
  split
  · rfl
  · refine LineSide.trans ?_ (State.lineDecides_side ..).toLineSide
    rfl

theorem State.takeWord_side (s : State) (d : Degree) (l : List Byte) : LineSide s (s.takeWord d l) := by
  unfold State.takeWord
  split
  · rfl
  · split
    · exact State.mismatchWord_side ..
    · unfold State.matchWord
      dsimp only
      split
      · refine LineSide.trans ?_ (State.recoverWord_side ..)
        rfl
      · refine LineSide.trans ?_ (State.acceptWord_side ..)
        rfl

theorem State.receiveByte_side (d : Degree) (s : State) (b : Byte) : LineSide s (State.receiveByte d s b) := by
  unfold State.receiveByte
  split
  · split <;> rfl
  · split
    · rfl
    · exact LineSide.trans (t := State.setReceiving s d none) rfl (State.takeWord_side ..)

theorem State.fallIdle_side (s : State) (d : Degree) : LineSide s (s.fallIdle d) := by
  unfold State.fallIdle
  split <;> rfl

/-! ### Replies and claims -/

theorem State.replyInHand_side (s : State) (b : List Byte) : ReplySide s (s.replyInHand b) := by
  unfold State.replyInHand
  split <;> rfl

theorem State.answer_side (s : State) (i : Instr) (b : List Byte) : ReplySide s (s.answer i b) := by
  unfold State.answer
  split
  · exact State.replyInHand_side ..
  · rfl

theorem State.endClaim_side (s : State) (c : EndCause) : ClaimSide s (s.endClaim c) := by
  unfold State.endClaim
  split <;> rfl

theorem State.commit_side (s : State) (m : DegSet) (p : Degree → Reason) {f : State → Degree → State}
    (hf : ∀ s d, CtrlSide s (f s d)) (ok : Byte) : CommitSide s (s.commit m p f ok).1 := by
  unfold State.commit
  dsimp only
  have h : CommitSide s (s.endClaim .consumed) := (State.endClaim_side s .consumed).toCommitSide
  split
  · exact h
  · split
    · exact h.trans (CtrlSide.foldl hf _ _).toCommitSide
    · exact h

theorem State.spanCommit_side (s : State) (n : Byte) (l : List Byte) (p : Degree → Reason)
    {f : State → Degree → State} (hf : ∀ s d, CtrlSide s (f s d)) (ok : Byte) :
    CommitSide s (s.spanCommit n l p f ok).1 := by
  unfold State.spanCommit
  split
  · rfl
  · exact State.commit_side s _ p hf ok


end Sys2Proof.Machine
end

