-- ==== Sys2Proof/Laws/GrantUnit.lean ====
section
/-! SUPPORT. What a recomputation of grants does (R74, R76, R77), once for one source, once for a list of sources, and once
for the sources an order, a removal or a clear reaches. -/

namespace Sys2Proof.Machine

/-- The SOURCE report of a recomputation, where the enable line changes (R77). -/
def sourceReport (spans : Vector Span 4) (now : Word32) (after : Bool) (i : SourceNo) (x : Source) :
    List HandedReport :=
  if (x.regranted spans).enable != x.enable then
    [{ report := .source i (grantOf spans x) (offReasons spans x) now, afterSpan := after }]
  else []

/-- A grant is computed from the setpoints, the exposure, the hold and the collection alone. -/
theorem grantOf_congr {spans : Vector Span 4} {x y : Source} (he : x.exposure = y.exposure) (hf : x.full = y.full)
    (hr : x.reduced = y.reduced) (hp : x.probe = y.probe) (hh : x.hold = y.hold)
    (hc : x.restrictions = y.restrictions) (ho : x.overflow = y.overflow) (hl : x.lostShut = y.lostShut) :
    grantOf spans x = grantOf spans y := by
  have hb : ceilingBound spans x = ceilingBound spans y := by
    funext c
    cases c <;> simp [ceilingBound, effProbe, Source.effReduced, he, hf, hr, hp]
  have ht : grantTerms spans x = grantTerms spans y := by
    unfold grantTerms
    rw [hb]
    simp [spanCeiling, rampValue, effProbe, Source.effReduced, he, hf, hr, hp, hh, hc]
  have hr : offReasons spans x = offReasons spans y := by
    simp [offReasons, spanCeiling, rampValue, effProbe, he, hf, hp, hh, hc, ho]
  simp [grantOf, ht, hr, hf, hl]

theorem Source.regranted_exposure (spans : Vector Span 4) (x : Source) :
    (x.regranted spans).exposure = x.exposure := by
  unfold Source.regranted; split <;> rfl

theorem grantOf_regranted (spans : Vector Span 4) (x : Source) :
    grantOf spans (x.regranted spans) = grantOf spans x := by
  apply grantOf_congr <;> (unfold Source.regranted; split <;> rfl)

theorem Source.regranted_grant (spans : Vector Span 4) (x : Source) :
    (x.regranted spans).grant = grantOf spans x := by
  unfold Source.regranted
  split
  · next h => exact h.symm
  · rfl

/-! ### An order, a removal and a clear at a collection leave the port alone -/

theorem Source.takeOrder_port (x : Source) (c : Ceiling) (p : Persistence) (o : Origin) :
    (x.takeOrder c p o).grant = x.grant ∧ (x.takeOrder c p o).enable = x.enable ∧
      (x.takeOrder c p o).setpoint = x.setpoint := by
  unfold Source.takeOrder
  split
  · exact ⟨rfl, rfl, rfl⟩
  · split <;> exact ⟨rfl, rfl, rfl⟩

theorem Source.takeClear_port (x : Source) (k : Key) :
    (x.takeClear k).grant = x.grant ∧ (x.takeClear k).enable = x.enable ∧
      (x.takeClear k).setpoint = x.setpoint := by
  unfold Source.takeClear
  dsimp only
  split <;> split <;> exact ⟨rfl, rfl, rfl⟩

theorem Source.takeRemoval_port (x : Source) (o : Origin) :
    (x.takeRemoval o).grant = x.grant ∧ (x.takeRemoval o).enable = x.enable ∧
      (x.takeRemoval o).setpoint = x.setpoint := by
  unfold Source.takeRemoval
  dsimp only
  split <;> exact ⟨rfl, rfl, rfl⟩

/-- What a source that MASTER_SHUT holds is granted (R75). -/
theorem ShutHeld.grantOf {x : Source} (h : ShutHeld x) (spans : Vector Span 4) : grantOf spans x = none := by
  unfold Machine.grantOf
  rw [if_neg]
  rintro ⟨ho, hl⟩
  rcases h with h | ⟨r, hr, -, hc, -, -⟩
  · rw [h] at hl; cases hl
  · have ha : (x.restrictions.any fun r => r.ceiling == .off) = true := List.any_eq_true.mpr ⟨r, hr, by simp [hc]⟩
    have hb : ∀ a b c d : Bool, BitVec.ofBool true ++ BitVec.ofBool a ++ BitVec.ofBool b ++ BitVec.ofBool c ++
        BitVec.ofBool d ≠ 0#5 := by decide
    unfold offReasons at ho
    rw [ha] at ho
    exact hb _ _ _ _ ho

/-- A source whose port is safe stays so when it is regranted. -/
theorem Source.regranted_safe {spans : Vector Span 4} {x : Source} (he : x.enable = x.grant.isSome)
    (hs : x.setpoint = setpointOf x.grant) : PortSafe spans (x.regranted spans) := by
  refine ⟨?_, ?_, ?_⟩
  · rw [grantOf_regranted, Source.regranted_grant]
  · unfold Source.regranted
    split
    · exact he
    · rfl
  · unfold Source.regranted
    split
    · exact hs
    · rfl

/-- Recomputing one source: its record regranted, no other, and the report handed on. -/
theorem State.recompute_eq (a : Bool) (s : State) (i : SourceNo) : s.recompute a i = { s with
    grant := { sources := put s.grant.sources i ((s.source i).regranted s.ctrl.spans) }
    transit := { s.transit with
      reports := s.transit.reports ++ sourceReport s.ctrl.spans s.now a i (s.source i) } } := by
  unfold State.recompute sourceReport Source.regranted
  dsimp only
  split
  · simp [State.source]
  · next h =>
    split
    · next g => simp [State.setSource, setpointOf, g]
    · next g => simp [State.setSource, State.handReport, setpointOf, g]

theorem State.recompute_source (a : Bool) (s : State) (i j : SourceNo) :
    (s.recompute a i).source j = if i = j then (s.source i).regranted s.ctrl.spans else s.source j := by
  rw [State.recompute_eq]
  exact look_put ..

/-- Recomputing a list of sources, none twice: each of them regranted, no other, and the reports in the list's order. -/
theorem State.recomputeAll_spec (a : Bool) (s : State) (l : List SourceNo) (h : l.Nodup) :
    (∀ j, (s.recomputeAll a l).source j = if j ∈ l then (s.source j).regranted s.ctrl.spans else s.source j) ∧
    (s.recomputeAll a l).transit = { s.transit with
      reports := s.transit.reports ++ l.flatMap fun i => sourceReport s.ctrl.spans s.now a i (s.source i) } := by
  induction l generalizing s with
  | nil => simp [State.recomputeAll]
  | cons i l ih =>
    obtain ⟨hi, hl⟩ := List.nodup_cons.mp h
    obtain ⟨h1, h2⟩ := ih (s.recompute a i) hl
    have hc : (s.recompute a i).ctrl = s.ctrl := (State.recompute_side a s i).ctrl
    have hn : (s.recompute a i).now = s.now := (State.recompute_side a s i).now
    have hs : ∀ j ∈ l, (s.recompute a i).source j = s.source j := by
      intro j hj
      rw [State.recompute_source, if_neg]
      rintro rfl
      exact hi hj
    refine ⟨fun j => ?_, ?_⟩
    · show ((s.recompute a i).recomputeAll a l).source j = _
      rw [h1, hc]
      by_cases hj : j ∈ l
      · simp [hj, hs j hj]
      · rw [if_neg hj, State.recompute_source]
        by_cases e : i = j
        · subst e; simp
        · simp [e, hj, Ne.symm e]
    · show ((s.recompute a i).recomputeAll a l).transit = _
      rw [h2, hc, hn]
      have hm : (l.flatMap fun j => sourceReport s.ctrl.spans s.now a j ((s.recompute a i).source j)) =
          l.flatMap fun j => sourceReport s.ctrl.spans s.now a j (s.source j) :=
        List.flatMap_congr fun j hj => by rw [hs j hj]
      rw [hm, State.recompute_eq]
      simp

/-- The reports of the sources that `p` picks, each regranted from the record `x`, are those of the enable lines that have
changed, where every other line stands. -/
theorem flatMap_sourceReport {s t : State} (a : Bool) (p : SourceNo → Bool) (x : SourceNo → Source)
    (hp : ∀ i, p i = true → t.source i = (x i).regranted t.ctrl.spans ∧ (x i).enable = (s.source i).enable)
    (hn : ∀ i, p i = false → (t.source i).enable = (s.source i).enable) :
    ((allSources.filter p).flatMap fun i => sourceReport t.ctrl.spans s.now a i (x i)) = enableReports a s t := by
  unfold enableReports allSources
  generalize List.finRange 16 = l
  induction l with
  | nil => rfl
  | cons i l ih =>
    by_cases hi : p i = true
    · have ho : offReasons t.ctrl.spans (t.source i) = offReasons t.ctrl.spans (x i) := by
        rw [(hp i hi).1]; unfold Source.regranted; split <;> rfl
      have hg : (t.source i).grant = grantOf t.ctrl.spans (x i) := by rw [(hp i hi).1, Source.regranted_grant]
      have h1 : sourceReport t.ctrl.spans s.now a i (x i) = if (t.source i).enable != (s.source i).enable then
          [{ report := .source i (t.source i).grant (offReasons t.ctrl.spans (t.source i)) s.now, afterSpan := a }]
          else [] := by
        unfold sourceReport
        rw [← (hp i hi).1, (hp i hi).2, ho, hg]
      rw [List.filter_cons, if_pos hi, List.flatMap_cons, ih, h1, List.filter_cons]
      split <;> rfl
    · have hi : p i = false := by simpa using hi
      simp [hi, hn i hi, ih]

/-- One source's record changes by `f`, which leaves its port alone, and its grant is recomputed. -/
theorem State.updateSource_source (f : Source → Source) (s : State) (i j : SourceNo) :
    (State.updateSource f s i).source j = if i = j then (f (s.source i)).regranted s.ctrl.spans else s.source j := by
  unfold State.updateSource
  rw [State.recompute_source]
  by_cases h : i = j
  · rw [if_pos h, if_pos h]
    congr 1
    exact look_put_same ..
  · rw [if_neg h, if_neg h]
    exact look_put_ne _ _ h

/-- The reports of one such change. -/
theorem State.updateSource_transit (f : Source → Source) (s : State) (i : SourceNo) :
    (State.updateSource f s i).transit = { s.transit with
      reports := s.transit.reports ++ sourceReport s.ctrl.spans s.now false i
        ((s.setSource i (f (s.source i))).source i) } := by
  unfold State.updateSource
  rw [State.recompute_eq]
  rfl

/-- The records of the sources that `p` picks change by `f`, in ascending order, and their grants are recomputed: what an
order, a removal or a clear does at the grant unit (R66, R68, R69, R74, R77). -/
theorem State.updateSources_changed (f : Source → Source) (he : ∀ x, (f x).enable = x.enable) (s : State)
    (p : SourceNo → Bool) : SourcesChanged s
      (fun j => if p j then (f (s.source j)).regranted s.ctrl.spans else s.source j)
      ((allSources.filter p).foldl (State.updateSource f) s) := by
  have key : ∀ (l : List SourceNo) (u : State), l.Nodup →
      (∀ j, (l.foldl (State.updateSource f) u).source j =
        if j ∈ l then (f (u.source j)).regranted u.ctrl.spans else u.source j) ∧
      (l.foldl (State.updateSource f) u).transit = { u.transit with
        reports := u.transit.reports ++ l.flatMap fun i => sourceReport u.ctrl.spans u.now false i (f (u.source i)) } := by
    intro l
    induction l with
    | nil => intro u _; simp
    | cons i l ih =>
      intro u h
      obtain ⟨hi, hl⟩ := List.nodup_cons.mp h
      obtain ⟨h1, h2⟩ := ih (State.updateSource f u i) hl
      have hside := State.updateSource_side f u i
      have hs : ∀ j ∈ l, (State.updateSource f u i).source j = u.source j := by
        intro j hj
        rw [State.updateSource_source, if_neg]
        rintro rfl
        exact hi hj
      have hm : (l.flatMap fun j => sourceReport u.ctrl.spans u.now false j (f ((State.updateSource f u i).source j))) =
          l.flatMap fun j => sourceReport u.ctrl.spans u.now false j (f (u.source j)) :=
        List.flatMap_congr fun j hj => by rw [hs j hj]
      refine ⟨fun j => ?_, ?_⟩
      · rw [List.foldl_cons, h1, hside.ctrl]
        by_cases hj : j ∈ l
        · simp [hj, hs j hj]
        · rw [if_neg hj, State.updateSource_source]
          by_cases e : i = j
          · subst e; simp
          · simp [e, hj, Ne.symm e]
      · rw [List.foldl_cons, h2, hside.ctrl, hside.now, hm, State.updateSource_transit]
        have : (u.setSource i (f (u.source i))).source i = f (u.source i) := look_put_same ..
        simp [this]
  obtain ⟨h1, h2⟩ := key (allSources.filter p) s ((List.nodup_finRange 16).filter _)
  have hside : GrantSide s ((allSources.filter p).foldl (State.updateSource f) s) :=
    GrantSide.foldl (State.updateSource_side f) _ s
  have hsrc : ∀ j, ((allSources.filter p).foldl (State.updateSource f) s).source j =
      if p j then (f (s.source j)).regranted s.ctrl.spans else s.source j := fun j => by
    rw [h1]
    simp [allSources]
  refine ⟨hsrc, ?_⟩
  have hr := flatMap_sourceReport (s := s) (t := (allSources.filter p).foldl (State.updateSource f) s) false p
    (fun i => f (s.source i)) (fun i hi => ⟨by rw [hsrc, hside.ctrl]; simp [hi], he _⟩)
    (fun i hi => by rw [hsrc]; simp [hi])
  rw [hside.ctrl] at hr
  rw [hr] at h2
  rw [← h2]
  exact hside

/-- Recomputation of the sources that `p` picks, in ascending order, by an event that makes no state change. -/
theorem State.recomputeAll_changed (s : State) (p : SourceNo → Bool) : SourcesChanged s
    (fun j => if p j then (s.source j).regranted s.ctrl.spans else s.source j)
    (s.recomputeAll false (allSources.filter p)) := by
  obtain ⟨h1, h2⟩ := State.recomputeAll_spec false s (allSources.filter p) ((List.nodup_finRange 16).filter _)
  have hside := State.recomputeAll_side false s (allSources.filter p)
  have hsrc : ∀ j, (s.recomputeAll false (allSources.filter p)).source j =
      if p j then (s.source j).regranted s.ctrl.spans else s.source j := fun j => by
    rw [h1]
    simp [allSources]
  refine ⟨hsrc, ?_⟩
  have hr := flatMap_sourceReport (s := s) (t := s.recomputeAll false (allSources.filter p)) false p s.source
    (fun i hi => ⟨by rw [hsrc, hside.ctrl]; simp [hi], rfl⟩) (fun i hi => by rw [hsrc]; simp [hi])
  rw [hside.ctrl] at hr
  rw [hr] at h2
  rw [← h2]
  exact hside

theorem State.exposedOn_nodup (s : State) (d : Degree) : (s.exposedOn d).Nodup :=
  (List.nodup_finRange 16).filter _

theorem State.mem_exposedOn (s : State) (d : Degree) (i : SourceNo) :
    i ∈ s.exposedOn d ↔ (s.source i).exposure.degree = some d := by
  simp [State.exposedOn, allSources]

end Sys2Proof.Machine
end

