-- ==== Sys2Proof/Laws/Operands.lean ====
section
/-! SUPPORT. What the readers of payload fields accept and give, once for all their callers: indices, enumerations, keys,
entry contents, degree lists and received words. -/

namespace Sys2Proof.Machine

/-! ### Indices and enumerations (R177, R183) -/

theorem index?_eq_some {n : Nat} (hn : n ≤ 256) (b : Byte) (i : Fin n) :
    index? n b = some i ↔ b = BitVec.ofNat 8 i.val := by
  have hi := i.isLt
  have hb := b.isLt
  unfold index?
  constructor
  · intro h
    split at h
    · cases h; simp
    · cases h
  · rintro rfl
    have : i.val % 256 = i.val := Nat.mod_eq_of_lt (by omega)
    simp [this]

theorem optIndex?_eq_some {n : Nat} (hn : n ≤ 255) (b : Byte) (i : Option (Fin n)) :
    optIndex? n b = some i ↔ b = optByte i := by
  unfold optIndex?
  cases i with
  | none =>
    by_cases h : b = 0xFF#8 <;> simp [h, optByte]
  | some i =>
    have hi := i.isLt
    by_cases h : b = 0xFF#8
    · subst h
      simp only [↓reduceIte, Option.some.injEq, reduceCtorEq, optByte, byteOf, false_iff]
      intro h
      have := congrArg BitVec.toNat h
      simp at this
      omega
    · simp [h, optByte, byteOf, index?_eq_some (by omega : n ≤ 256)]

theorem ceiling?_eq_some (b : Byte) (c : Ceiling) : ceiling? b = some c ↔ b = ceilingByte c := by
  unfold ceiling?
  cases c <;> simp only [ceilingByte] <;> split_ifs <;> simp_all

theorem persistence?_eq_some (b : Byte) (p : Persistence) : persistence? b = some p ↔ b = persistenceByte p := by
  unfold persistence?
  cases p <;> simp only [persistenceByte] <;> split_ifs <;> simp_all

theorem set?_eq_some (b : Byte) (m : BitVec 4) : set? b = some m ↔ b = m.setWidth 8 := by
  unfold set?
  constructor
  · intro h
    split at h
    · cases h
      apply BitVec.eq_of_toNat_eq
      simp
      omega
    · cases h
  · rintro rfl
    have := m.isLt
    have h : m.toNat % 256 = m.toNat := Nat.mod_eq_of_lt (by omega)
    simp [h, this]

theorem kind?_eq_some (b : Byte) (k : Kind) : kind? b = some k ↔ b = kindCode k := by
  constructor
  · intro h
    have := List.find?_some h
    simpa using (of_decide_eq_true this).symm
  · rintro rfl
    cases k <;> decide

theorem detail?_eq_some (k : Kind) (b : Byte) (t : Option Detail) :
    detail? k b = some t ↔ b = detailByte t ∧
      match t with
      | none => True
      | some (.channel _) => k = .monitorFault
      | some (.contact _) => k = .guardOpen ∨ k = .keyOpen := by
  unfold detail?
  by_cases h : b = 0xFF#8
  · subst h
    rcases t with _ | ⟨c⟩ | ⟨c⟩
    · simp [detailByte]
    · have := c.isLt
      simp only [↓reduceIte, Option.some.injEq, reduceCtorEq, detailByte, byteOf, false_iff, not_and]
      intro h
      have := congrArg BitVec.toNat h
      simp at this
      omega
    · have := c.isLt
      simp only [↓reduceIte, Option.some.injEq, reduceCtorEq, detailByte, byteOf, false_iff, not_and]
      intro h
      have := congrArg BitVec.toNat h
      simp at this
      omega
  · have hb : ∀ x : Option Detail, x = none → b ≠ detailByte x := by rintro _ rfl; exact h
    rcases t with _ | ⟨c⟩ | ⟨c⟩ <;> cases k <;>
      simp [h, detailByte, byteOf, index?_eq_some (by omega : 16 ≤ 256), index?_eq_some (by omega : 8 ≤ 256)]

/-! ### Keys, entry contents, degree sets (R40, R43, R146) -/

theorem key?_eq_some (r : RawKey) (k : Key) :
    key? r = some k ↔ SpellsKey r k ∧
      match k.detail with
      | none => True
      | some (.channel _) => k.kind = .monitorFault
      | some (.contact _) => k.kind = .guardOpen ∨ k.kind = .keyOpen := by
  obtain ⟨a, d, t⟩ := r
  obtain ⟨k, e, u⟩ := k
  simp only [key?, SpellsKey, keyBytes, List.cons.injEq, and_true]
  constructor
  · intro h
    split at h
    · next k' e' hk he =>
      obtain ⟨u', hu, h⟩ := Option.map_eq_some_iff.mp h
      cases h
      obtain ⟨hu, hf⟩ := (detail?_eq_some ..).mp hu
      exact ⟨⟨((kind?_eq_some ..).mp hk).symm, ((optIndex?_eq_some (by omega) ..).mp he).symm, hu.symm⟩, hf⟩
    · cases h
  · rintro ⟨⟨rfl, rfl, rfl⟩, hf⟩
    rw [(kind?_eq_some ..).mpr rfl, (optIndex?_eq_some (by omega) ..).mpr rfl]
    simp only [Option.map_eq_some_iff]
    exact ⟨u, (detail?_eq_some ..).mpr ⟨rfl, hf⟩, rfl⟩

theorem entryKey?_eq_some (r : RawKey) (k : Key) : entryKey? r = some k ↔ SpellsEntryKey r k := by
  rw [entryKey?, Option.filter_eq_some_iff, key?_eq_some, SpellsEntryKey, and_assoc]
  refine and_congr_right fun _ => ?_
  obtain ⟨k, e, u⟩ := k
  rcases u with _ | c | c <;> cases k <;> cases e <;> simp [channelFits]
  exact eq_comm

theorem testedKey?_eq_some (r : RawKey) (k : Key) : testedKey? r = some k ↔ SpellsTestedKey r k := by
  rw [testedKey?, Option.filter_eq_some_iff, key?_eq_some, SpellsTestedKey, and_assoc]
  refine and_congr_right fun _ => ?_
  obtain ⟨k, e, u⟩ := k
  rcases u with _ | c | c <;> cases k <;> cases e <;> simp [channelFits]
  exact eq_comm

/-- A list read element by element, where each element has one reading. -/
theorem mapM_eq_some {α β : Type} {f : α → Option β} {g : β → α} (h : ∀ x y, f x = some y ↔ x = g y) (l : List α)
    (m : List β) : l.mapM f = some m ↔ l = m.map g := by
  induction l generalizing m with
  | nil => cases m <;> simp
  | cons x l ih =>
    rw [List.mapM_cons]
    cases m with
    | nil => cases hx : f x <;> cases hl : l.mapM f <;> simp
    | cons y m =>
      rw [List.map_cons, List.cons.injEq, ← h, ← ih]
      cases hx : f x <;> cases hl : l.mapM f <;> simp

theorem one_getLsbD : ∀ d e : Degree, (DegSet.one e).getLsbD d = true ↔ d = e := by decide

theorem ofList_getLsbD (l : List Degree) (d : Degree) : (DegSet.ofList l).getLsbD d = true ↔ d ∈ l := by
  induction l with
  | nil => simp [DegSet.ofList]
  | cons e l ih =>
    rw [DegSet.ofList, List.foldr_cons, BitVec.getLsbD_or, Bool.or_eq_true, one_getLsbD, List.mem_cons]
    exact or_congr_right ih

theorem degrees?_eq_some (count : Byte) (l : List Byte) (m : DegSet) :
    degrees? count l = some m ↔ NamesDegrees count l m := by
  unfold degrees? NamesDegrees
  constructor
  · intro h
    split at h
    · next hn =>
      obtain ⟨ds, hd, rfl⟩ := Option.map_eq_some_iff.mp h
      obtain ⟨hd, hu⟩ := Option.filter_eq_some_iff.mp hd
      have hl := (mapM_eq_some (index?_eq_some (by omega : 4 ≤ 256)) ..).mp hd
      have hlen := congrArg List.length hl
      rw [List.length_map] at hlen
      refine ⟨ds, by omega, of_decide_eq_true hu, ?_, hl, fun d => ofList_getLsbD ..⟩
      rw [← hlen, ← hn.1, BitVec.ofNat_toNat, BitVec.setWidth_eq]
    · cases h
  · rintro ⟨ds, hn, hu, rfl, rfl, hm⟩
    have h256 : ds.length % 256 = ds.length := Nat.mod_eq_of_lt (by omega)
    have hmap : (ds.map fun d => BitVec.ofNat 8 d.val).mapM (index? 4) = some ds :=
      (mapM_eq_some (index?_eq_some (by omega)) ..).mpr rfl
    rw [if_pos (by simp only [BitVec.toNat_ofNat, List.length_map]; omega), hmap]
    simp only [Option.map_eq_some_iff, Option.filter_eq_some_iff]
    refine ⟨ds, ⟨rfl, decide_eq_true hu⟩, BitVec.eq_of_getLsbD_eq fun i hi => ?_⟩
    have := (ofList_getLsbD ds ⟨i, hi⟩).trans (hm ⟨i, hi⟩).symm
    exact Bool.eq_iff_iff.mpr this

theorem action?_eq_some (r : RawAction) (a : Action) :
    action? r = some a ↔ r = { source := BitVec.ofNat 8 a.source.val, ceiling := ceilingByte a.ceiling
                               persistence := persistenceByte a.persistence } := by
  obtain ⟨x, y, z⟩ := r
  obtain ⟨i, c, p⟩ := a
  rw [RawAction.mk.injEq, ← index?_eq_some (by omega : 16 ≤ 256), ← ceiling?_eq_some, ← persistence?_eq_some, action?]
  cases index? 16 x <;> cases ceiling? y <;> cases persistence? z <;> simp

theorem entryContent?_eq_some (key : RawKey) (cls count : Byte) (actions : List RawAction) (cut withhold : Byte)
    (c : EntryContent) :
    entryContent? key cls count actions cut withhold = some c ↔ EntrySpelt key cls count actions cut withhold c := by
  unfold entryContent?
  constructor
  · intro h
    split at h
    · next k cl as x w hk hc ha hx hw =>
      split at h
      · next hn =>
        cases h
        obtain ⟨ha, hu⟩ := Option.filter_eq_some_iff.mp ha
        have hl := (mapM_eq_some action?_eq_some ..).mp ha
        have hlen := congrArg List.length hl
        rw [List.length_map] at hlen
        refine ⟨(entryKey?_eq_some ..).mp hk, (index?_eq_some (by omega) ..).mp hc, ?_, by dsimp only; omega, hl,
          of_decide_eq_true hu, (set?_eq_some ..).mp hx, (set?_eq_some ..).mp hw⟩
        rw [← hlen, ← hn.1, BitVec.ofNat_toNat, BitVec.setWidth_eq]
      · cases h
    · cases h
  · rintro ⟨hk, hc, hn, h4, ha, hu, hx, hw⟩
    have hl := congrArg List.length ha
    rw [List.length_map] at hl
    have h256 : c.actions.length % 256 = c.actions.length := Nat.mod_eq_of_lt (by omega)
    have has : actions? actions = some c.actions :=
      Option.filter_eq_some_iff.mpr ⟨(mapM_eq_some action?_eq_some ..).mpr ha, decide_eq_true hu⟩
    rw [(entryKey?_eq_some ..).mpr hk, (index?_eq_some (by omega) ..).mpr hc, has, (set?_eq_some ..).mpr hx,
      (set?_eq_some ..).mpr hw]
    refine if_pos ⟨?_, by omega⟩
    rw [hn, BitVec.toNat_ofNat]
    omega

/-! ### Received words (R125, R180) -/

theorem farWord?_eq_none (b0 b1 b2 b3 b4 b5 : Byte) :
    farWord? [b0, b1, b2, b3, b4, b5] = none ↔ crc8 [b1, b2, b3, b4] ≠ b5 ∨ b3.toNat / 32 = 7 := by
  have h : b3.extractLsb' 5 3 = 7#3 ↔ b3.toNat / 32 = 7 := by
    revert b3; decide
  simp only [farWord?]
  split_ifs <;> simp_all [← imp_iff_not_or]

theorem farWord?_fields {b0 b1 b2 b3 b4 b5 : Byte} {w : FarWord} (h : farWord? [b0, b1, b2, b3, b4, b5] = some w) :
    w.ordinal.toNat = 16 * b1.toNat + b2.toNat / 16 ∧ w.degree.val = b2.toNat / 4 % 4 ∧
      w.zeros.toNat = b2.toNat % 4 ∧ w.code.toNat = b3.toNat / 32 ∧ w.flags.toNat = b3.toNat % 32 ∧ w.spare = b4 ∧
      w.shut = b3.getLsbD 4 ∧ w.lightSeen = b3.getLsbD 3 ∧ w.probing = b3.getLsbD 2 ∧ w.probeReq = b3.getLsbD 1 ∧
      w.lockout = b3.getLsbD 0 := by
  simp only [farWord?] at h
  split_ifs at h
  cases h
  have h1 := b1.isLt
  have h2 := b2.isLt
  have h3 := b3.isLt
  refine ⟨?_, ?_, ?_, ?_, ?_, rfl, ?_, ?_, ?_, ?_, ?_⟩
  · rw [BitVec.toNat_append, ← Nat.shiftLeft_add_eq_or_of_lt (BitVec.isLt _)]
    simp [Nat.shiftRight_eq_div_pow, Nat.shiftLeft_eq]
    omega
  all_goals
    simp [FarWord.shut, FarWord.lightSeen, FarWord.probing, FarWord.probeReq, FarWord.lockout, Nat.shiftRight_eq_div_pow]
    <;> omega

/-! ### The next report of a category (R171, R83) -/

theorem nextReport_none {c : Category} {l : List HandedReport} (h : ∀ x ∈ l, x.report.category ≠ c) :
    nextReport c l = none := by
  rw [nextReport, List.find?_eq_none.mpr fun x hx => by simpa using h x hx]

/-- Which report of a category is next, and that exactly that one leaves: the first of the category, unless it is the
SOURCE report of a span state change behind a SPAN report. -/
theorem nextReport_at {c : Category} {x : HandedReport} {a b : List HandedReport} (hx : x.report.category = c)
    (ha : ∀ y ∈ a, y.report.category ≠ c) :
    dropReport c (a ++ x :: b) = a ++ b ∧
      nextReport c (a ++ x :: b) =
        if x.afterSpan = true ∧ ∃ y ∈ a, y.report.category = .span then none else some x.report := by
  have hf : (a ++ x :: b).find? (fun y => y.report.category == c) = some x := by
    rw [List.find?_append, List.find?_eq_none.mpr fun y hy => by simpa using ha y hy]
    simp [hx]
  have ht : (a ++ x :: b).takeWhile (fun y => y.report.category != c) = a := by
    rw [List.takeWhile_append_of_pos fun y hy => by simpa using ha y hy]
    simp [hx]
  refine ⟨?_, ?_⟩
  · rw [dropReport, List.eraseP_append_right _ fun y hy => by simpa using ha y hy]
    simp [hx]
  · simp only [nextReport, hf, ht, Bool.and_eq_true, List.any_eq_true, beq_iff_eq]

/-! ### The claim unit's channel (R147, R148) -/

theorem takeWhile_isNotice_mem {n : Notice} {l : List ClaimEvent} :
    .notice n ∈ l.takeWhile ClaimEvent.isNotice ↔ ∃ a b, l = a ++ .notice n :: b ∧ ∀ c, .breakBy c ∉ a := by
  induction l with
  | nil => simp
  | cons x l ih =>
    cases x with
    | notice m =>
      rw [List.takeWhile_cons_of_pos rfl, List.mem_cons, ih]
      constructor
      · rintro (h | ⟨a, b, rfl, h⟩)
        · exact ⟨[], l, by rw [h]; rfl, fun _ => List.not_mem_nil⟩
        · exact ⟨.notice m :: a, b, rfl, fun c => by simpa using h c⟩
      · rintro ⟨a, b, h, hc⟩
        cases a with
        | nil => exact .inl (List.cons.inj h).1.symm
        | cons y a =>
          obtain ⟨rfl, rfl⟩ := List.cons.inj h
          exact .inr ⟨a, b, rfl, fun c hm => hc c (List.mem_cons_of_mem _ hm)⟩
    | breakBy c =>
      rw [List.takeWhile_cons_of_neg Bool.false_ne_true]
      simp only [List.not_mem_nil, false_iff]
      rintro ⟨a, b, h, hc⟩
      cases a with
      | nil => exact ClaimEvent.noConfusion (List.cons.inj h).1
      | cons y a =>
        obtain ⟨rfl, rfl⟩ := List.cons.inj h
        exact hc c List.mem_cons_self

end Sys2Proof.Machine
end

