-- ==== Sys2Proof/Laws/PerInstr.lean ====
section
/-! SUPPORT. What is said of every command as syntax: how it is sent. A request has a kind of R181's table, and a payload
that one frame carries; a command that is no request has neither. -/

namespace Sys2Proof.Laws

open Sys2Proof.Machine

/-- A request of well-formed lists has a kind from 01h to 24h that is not 12h, and a payload of at most 32 bytes, which a
frame carries (R178, R181); a command that is no request has no payload. -/
def RequestForm.Statement (i : Instr) : Prop :=
  (∀ k, requestKind i = some k → 1 ≤ k.toNat ∧ k.toNat ≤ 0x24 ∧ k ≠ 0x12) ∧
    (i.wellFormed = true → (requestPayload i).length ≤ 32) ∧ (requestKind i = none → requestPayload i = [])

/-- A command that is no request. -/
theorem requestForm_event (i : Instr) (hk : requestKind i = none) (hp : requestPayload i = []) :
    RequestForm.Statement i :=
  ⟨fun k h => by rw [hk] at h; exact absurd h.symm (Option.some_ne_none k), fun _ => by rw [hp]; exact Nat.zero_le _,
    fun _ => hp⟩

/-- A request of kind `k`. -/
theorem requestForm_request (i : Instr) (k : Byte) (hk : requestKind i = some k)
    (hr : 1 ≤ k.toNat ∧ k.toNat ≤ 0x24 ∧ k ≠ 0x12)
    (hl : i.wellFormed = true → (requestPayload i).length ≤ 32) : RequestForm.Statement i :=
  ⟨fun x h => by rw [hk] at h; cases h; exact hr, hl, fun h => by rw [hk] at h; exact absurd h (Option.some_ne_none k)⟩

/-- A degree list that fits its count holds at most two bytes. -/
theorem degreesFit_length {n : Byte} {l : List Byte} (h : degreesFit n l = true) : l.length ≤ 2 := by
  simp only [degreesFit, Bool.and_eq_true, decide_eq_true_eq] at h
  exact h.1.2

/-- An action list that fits its count holds at most four actions, of three bytes each. -/
theorem actionsFit_length {n : Byte} {l : List RawAction} (h : actionsFit n l = true) :
    (l.flatMap actionBytes).length ≤ 12 := by
  simp only [actionsFit, Bool.and_eq_true, decide_eq_true_eq] at h
  have : (l.flatMap actionBytes).length = 3 * l.length := by
    simp only [List.length_flatMap, actionBytes, List.length_cons, List.length_nil]
    simp [Nat.mul_comm]
  omega

/-! ### One lemma per command -/

theorem RequestForm.powerOnReset : RequestForm.Statement .powerOnReset :=
  requestForm_event _ rfl rfl

theorem RequestForm.monitorReading (ch : ChannelNo) (code : BitVec 12) (valid : Bool) :
    RequestForm.Statement (.monitorReading ch code valid) :=
  requestForm_event _ rfl rfl

theorem RequestForm.historySample (d : Degree) : RequestForm.Statement (.historySample d) :=
  requestForm_event _ rfl rfl

theorem RequestForm.lookup : RequestForm.Statement .lookup :=
  requestForm_event _ rfl rfl

theorem RequestForm.snapshotWrite : RequestForm.Statement .snapshotWrite :=
  requestForm_event _ rfl rfl

theorem RequestForm.forcedClear (d : Degree) : RequestForm.Statement (.forcedClear d) :=
  requestForm_event _ rfl rfl

theorem RequestForm.contactLevelChange (k : ContactNo) : RequestForm.Statement (.contactLevelChange k) :=
  requestForm_event _ rfl rfl

theorem RequestForm.debounceExpiry (k : ContactNo) : RequestForm.Statement (.debounceExpiry k) :=
  requestForm_event _ rfl rfl

theorem RequestForm.masterShutAssertion : RequestForm.Statement .masterShutAssertion :=
  requestForm_event _ rfl rfl

theorem RequestForm.masterShutDeassertion : RequestForm.Statement .masterShutDeassertion :=
  requestForm_event _ rfl rfl

theorem RequestForm.clearDelayExpiry : RequestForm.Statement .clearDelayExpiry :=
  requestForm_event _ rfl rfl

theorem RequestForm.restrictionOrder : RequestForm.Statement .restrictionOrder :=
  requestForm_event _ rfl rfl

theorem RequestForm.clearAtGrantUnit : RequestForm.Statement .clearAtGrantUnit :=
  requestForm_event _ rfl rfl

theorem RequestForm.removalOrder : RequestForm.Statement .removalOrder :=
  requestForm_event _ rfl rfl

theorem RequestForm.cutOrder : RequestForm.Statement .cutOrder :=
  requestForm_event _ rfl rfl

theorem RequestForm.lockOrder : RequestForm.Statement .lockOrder :=
  requestForm_event _ rfl rfl

theorem RequestForm.clearAtSpanController : RequestForm.Statement .clearAtSpanController :=
  requestForm_event _ rfl rfl

theorem RequestForm.blockerReexamination : RequestForm.Statement .blockerReexamination :=
  requestForm_event _ rfl rfl

theorem RequestForm.settleExpiry (d : Degree) : RequestForm.Statement (.settleExpiry d) :=
  requestForm_event _ rfl rfl

theorem RequestForm.intervalExpiry (d : Degree) : RequestForm.Statement (.intervalExpiry d) :=
  requestForm_event _ rfl rfl

theorem RequestForm.probeTimerExpiry (d : Degree) : RequestForm.Statement (.probeTimerExpiry d) :=
  requestForm_event _ rfl rfl

theorem RequestForm.requestTimerExpiry (d : Degree) : RequestForm.Statement (.requestTimerExpiry d) :=
  requestForm_event _ rfl rfl

theorem RequestForm.rampStepExpiry (d : Degree) : RequestForm.Statement (.rampStepExpiry d) :=
  requestForm_event _ rfl rfl

theorem RequestForm.farWordAtSpanController (d : Degree) : RequestForm.Statement (.farWordAtSpanController d) :=
  requestForm_event _ rfl rfl

theorem RequestForm.siteOrdinalChange (d : Degree) : RequestForm.Statement (.siteOrdinalChange d) :=
  requestForm_event _ rfl rfl

theorem RequestForm.spanWordSend (d : Degree) : RequestForm.Statement (.spanWordSend d) :=
  requestForm_event _ rfl rfl

theorem RequestForm.spanWordReceived (d : Degree) (bytes : List Byte) (idle : Bool) :
    RequestForm.Statement (.spanWordReceived d bytes idle) :=
  requestForm_event _ rfl rfl

theorem RequestForm.lineTimerExpiry (d : Degree) : RequestForm.Statement (.lineTimerExpiry d) :=
  requestForm_event _ rfl rfl

theorem RequestForm.captureTrigger (d : Degree) : RequestForm.Statement (.captureTrigger d) :=
  requestForm_event _ rfl rfl

theorem RequestForm.claimNotice (n : Notice) : RequestForm.Statement (.claimNotice n) :=
  requestForm_event _ rfl rfl

theorem RequestForm.claimBreak (c : BreakCause) : RequestForm.Statement (.claimBreak c) :=
  requestForm_event _ rfl rfl

theorem RequestForm.claimLifeExpiry : RequestForm.Statement .claimLifeExpiry :=
  requestForm_event _ rfl rfl

theorem RequestForm.counterZeroing : RequestForm.Statement .counterZeroing :=
  requestForm_event _ rfl rfl

theorem RequestForm.reevaluation : RequestForm.Statement .reevaluation :=
  requestForm_event _ rfl rfl

theorem RequestForm.rewrittenSnapshotWrite : RequestForm.Statement .rewrittenSnapshotWrite :=
  requestForm_event _ rfl rfl

theorem RequestForm.reportEnqueue (c : Category) : RequestForm.Statement (.reportEnqueue c) :=
  requestForm_event _ rfl rfl

theorem RequestForm.hostByteReceived (b : Byte) : RequestForm.Statement (.hostByteReceived b) :=
  requestForm_event _ rfl rfl

theorem RequestForm.characterError : RequestForm.Statement .characterError :=
  requestForm_event _ rfl rfl

theorem RequestForm.resync : RequestForm.Statement .resync :=
  requestForm_event _ rfl rfl

theorem RequestForm.gapTimerExpiry : RequestForm.Statement .gapTimerExpiry :=
  requestForm_event _ rfl rfl

theorem RequestForm.frameComplete : RequestForm.Statement .frameComplete :=
  requestForm_event _ rfl rfl

theorem RequestForm.replySent : RequestForm.Statement .replySent :=
  requestForm_event _ rfl rfl

theorem RequestForm.setChannel (channel : Byte) (dark : Half) (gain : Half) :
    RequestForm.Statement (.setChannel channel dark gain) :=
  requestForm_request _ _ rfl (by decide) fun _ => of_decide_eq_true rfl

theorem RequestForm.getReading (first : Byte) (count : Byte) : RequestForm.Statement (.getReading first count) :=
  requestForm_request _ _ rfl (by decide) fun _ => of_decide_eq_true rfl

theorem RequestForm.setContact (contact : Byte) (use : Byte) (level : Byte) (degree : Byte) (debounce : Byte) :
    RequestForm.Statement (.setContact contact use level degree debounce) :=
  requestForm_request _ _ rfl (by decide) fun _ => of_decide_eq_true rfl

theorem RequestForm.getContact : RequestForm.Statement .getContact :=
  requestForm_request _ _ rfl (by decide) fun _ => of_decide_eq_true rfl

theorem RequestForm.getConditions (position : Byte) (form : Byte) :
    RequestForm.Statement (.getConditions position form) :=
  requestForm_request _ _ rfl (by decide) fun _ => of_decide_eq_true rfl

theorem RequestForm.putEntry (placement : Byte) (target : Byte) (key : RawKey) (cls : Byte) (count : Byte) (actions : List RawAction) (cut : Byte) (withhold : Byte) :
    RequestForm.Statement (.putEntry placement target key cls count actions cut withhold) :=
  requestForm_request _ _ rfl (by decide) fun h => by
    have := actionsFit_length h
    simp only [requestPayload, List.length_append, List.length_cons, List.length_nil]
    omega

theorem RequestForm.parkEntry (index : Byte) : RequestForm.Statement (.parkEntry index) :=
  requestForm_request _ _ rfl (by decide) fun _ => of_decide_eq_true rfl

theorem RequestForm.unparkEntry (index : Byte) : RequestForm.Statement (.unparkEntry index) :=
  requestForm_request _ _ rfl (by decide) fun _ => of_decide_eq_true rfl

theorem RequestForm.freeEntry (index : Byte) : RequestForm.Statement (.freeEntry index) :=
  requestForm_request _ _ rfl (by decide) fun _ => of_decide_eq_true rfl

theorem RequestForm.getEntry (index : Byte) : RequestForm.Statement (.getEntry index) :=
  requestForm_request _ _ rfl (by decide) fun _ => of_decide_eq_true rfl

theorem RequestForm.testKey (key : RawKey) (population : Byte) (filter : Byte) :
    RequestForm.Statement (.testKey key population filter) :=
  requestForm_request _ _ rfl (by decide) fun _ => of_decide_eq_true rfl

theorem RequestForm.setSource (source : Byte) (exposure : Byte) (degree : Byte) (full : Half) (reduced : Half) (probe : Half) :
    RequestForm.Statement (.setSource source exposure degree full reduced probe) :=
  requestForm_request _ _ rfl (by decide) fun _ => of_decide_eq_true rfl

theorem RequestForm.holdSource (source : Byte) (hold : Byte) : RequestForm.Statement (.holdSource source hold) :=
  requestForm_request _ _ rfl (by decide) fun _ => of_decide_eq_true rfl

theorem RequestForm.releaseLatch (source : Byte) : RequestForm.Statement (.releaseLatch source) :=
  requestForm_request _ _ rfl (by decide) fun _ => of_decide_eq_true rfl

theorem RequestForm.getSource (source : Byte) : RequestForm.Statement (.getSource source) :=
  requestForm_request _ _ rfl (by decide) fun _ => of_decide_eq_true rfl

theorem RequestForm.setSpan (degree : Byte) (config : RawSpanConfig) :
    RequestForm.Statement (.setSpan degree config) :=
  requestForm_request _ _ rfl (by decide) fun _ => of_decide_eq_true rfl

theorem RequestForm.lock (degree : Byte) : RequestForm.Statement (.lock degree) :=
  requestForm_request _ _ rfl (by decide) fun _ => of_decide_eq_true rfl

theorem RequestForm.resume (count : Byte) (degrees : List Byte) : RequestForm.Statement (.resume count degrees) :=
  requestForm_request _ _ rfl (by decide) fun h => by
    have := degreesFit_length h
    simp only [requestPayload, List.length_cons]
    omega

theorem RequestForm.unlock (count : Byte) (degrees : List Byte) : RequestForm.Statement (.unlock count degrees) :=
  requestForm_request _ _ rfl (by decide) fun h => by
    have := degreesFit_length h
    simp only [requestPayload, List.length_cons]
    omega

theorem RequestForm.getSpan (degree : Byte) : RequestForm.Statement (.getSpan degree) :=
  requestForm_request _ _ rfl (by decide) fun _ => of_decide_eq_true rfl

theorem RequestForm.probeNow (count : Byte) (duration : Byte) (degrees : List Byte) :
    RequestForm.Statement (.probeNow count duration degrees) :=
  requestForm_request _ _ rfl (by decide) fun h => by
    have := degreesFit_length h
    simp only [requestPayload, List.length_cons]
    omega

theorem RequestForm.setSite (own : Half) (far0 : Half) (far1 : Half) (far2 : Half) (far3 : Half) :
    RequestForm.Statement (.setSite own far0 far1 far2 far3) :=
  requestForm_request _ _ rfl (by decide) fun _ => of_decide_eq_true rfl

theorem RequestForm.getLine (degree : Byte) : RequestForm.Statement (.getLine degree) :=
  requestForm_request _ _ rfl (by decide) fun _ => of_decide_eq_true rfl

theorem RequestForm.setProfile (profile : Byte) (degree : Byte) (limits : RawLimits) (autoRestart : Byte) (mask : Byte) :
    RequestForm.Statement (.setProfile profile degree limits autoRestart mask) :=
  requestForm_request _ _ rfl (by decide) fun _ => of_decide_eq_true rfl

theorem RequestForm.getProfile (profile : Byte) (degree : Byte) :
    RequestForm.Statement (.getProfile profile degree) :=
  requestForm_request _ _ rfl (by decide) fun _ => of_decide_eq_true rfl

theorem RequestForm.selectProfile (profile : Byte) : RequestForm.Statement (.selectProfile profile) :=
  requestForm_request _ _ rfl (by decide) fun _ => of_decide_eq_true rfl

theorem RequestForm.claim (count : Byte) (degrees : List Byte) : RequestForm.Statement (.claim count degrees) :=
  requestForm_request _ _ rfl (by decide) fun h => by
    have := degreesFit_length h
    simp only [requestPayload, List.length_cons]
    omega

theorem RequestForm.getClaim : RequestForm.Statement .getClaim :=
  requestForm_request _ _ rfl (by decide) fun _ => of_decide_eq_true rfl

theorem RequestForm.readCapture (buffer : Byte) (page : Byte) : RequestForm.Statement (.readCapture buffer page) :=
  requestForm_request _ _ rfl (by decide) fun _ => of_decide_eq_true rfl

theorem RequestForm.releaseCapture (buffer : Byte) : RequestForm.Statement (.releaseCapture buffer) :=
  requestForm_request _ _ rfl (by decide) fun _ => of_decide_eq_true rfl

theorem RequestForm.getCapture : RequestForm.Statement .getCapture :=
  requestForm_request _ _ rfl (by decide) fun _ => of_decide_eq_true rfl

theorem RequestForm.readReports : RequestForm.Statement .readReports :=
  requestForm_request _ _ rfl (by decide) fun _ => of_decide_eq_true rfl

theorem RequestForm.setNotify (mask : Byte) : RequestForm.Statement (.setNotify mask) :=
  requestForm_request _ _ rfl (by decide) fun _ => of_decide_eq_true rfl

theorem RequestForm.identify : RequestForm.Statement .identify :=
  requestForm_request _ _ rfl (by decide) fun _ => of_decide_eq_true rfl

theorem RequestForm.resetPart : RequestForm.Statement .resetPart :=
  requestForm_request _ _ rfl (by decide) fun _ => of_decide_eq_true rfl

end Sys2Proof.Laws
end

