-- ==== Sys2Proof/Laws/SpanController.lean ====
section
/-! SUPPORT. What the span controller's shared operations do: the state change (R83), the entries into DARK and AWAIT
(R96, R106), the test of confirmation (R112, R113), each said once. -/

namespace Sys2Proof.Machine

theorem setSpan_span (s : State) (d e : Degree) (r : Span) :
    (s.setSpan d r).span e = if d = e then r else s.span e := look_put ..

/-- The capture triggers of a state change: one of a cut order's change from a light state into DARK or HELD (R83). -/
def cutTriggers (d : Degree) (old new : SpanState) : Option Key → List (Degree × Key)
  | some k => if (old = .lit ∨ old = .ramp ∨ old = .probe) ∧ (new = .dark ∨ new = .held) then [(d, k)] else []
  | none => []

theorem State.handForcedIf_eq (s : State) (d : Degree) (n : SpanState) :
    s.handForcedIf d n.handsForced = { s with transit := { s.transit with
      forced := s.transit.forced ++ if n = .dark ∨ n = .held ∨ n = .locked then [d] else [] } } := by
  cases n <;> simp [State.handForcedIf, SpanState.handsForced, State.handForced]

theorem State.handCutTrigger_eq (s : State) (d : Degree) (old new : SpanState) (k : Option Key) :
    s.handCutTrigger d old new k = { s with transit := { s.transit with
      triggers := s.transit.triggers ++ cutTriggers d old new k } } := by
  cases k with
  | none => simp [State.handCutTrigger, cutTriggers]
  | some k =>
    cases old <;> cases new <;> simp [State.handCutTrigger, cutTriggers, State.handTrigger, SpanState.isLight]

/-- A state change of span `d` is one event (R83), for every change `f` of the record that keeps its state and cause. -/
theorem State.moveSpan_change (s : State) (d : Degree) (n : SpanState) (c : SpanCause) (f : Span → Span)
    (k : Option Key) (hs : (f ((s.span d).enter n c)).state = n) (hc : (f ((s.span d).enter n c)).cause = c) :
    SpanChange s d (f ((s.span d).enter n c)) k (s.moveSpan d n c f k) := by
  generalize hr : f ((s.span d).enter n c) = r at hs hc
  let u : State := (s.setSpan d r).handReport (.span d (s.span d).state n c s.now) false
  let m := u.recomputeAll true (u.exposedOn d)
  have hm : m = u.recomputeAll true (u.exposedOn d) := rfl
  obtain ⟨h1, h2⟩ := State.recomputeAll_spec true u (u.exposedOn d) (u.exposedOn_nodup d)
  rw [← hm] at h1 h2
  have hside : GrantSide u m := State.recomputeAll_side ..
  have hsrc : ∀ i, u.source i = s.source i := fun i => rfl
  have hctrl : m.ctrl = { spans := put s.ctrl.spans d r } := hside.ctrl
  have hmem : ∀ i, i ∈ u.exposedOn d ↔ (s.source i).exposure.degree = some d := u.mem_exposedOn d
  have ht : s.moveSpan d n c f k =
      (((m.handForcedIf d n.handsForced).handCutTrigger d (s.span d).state n k).handNotice (.spanChange d)) := by
    subst hr
    rfl
  have htr : (s.moveSpan d n c f k).transit = { s.transit with
      reports := m.transit.reports
      forced := s.transit.forced ++ (if n = .dark ∨ n = .held ∨ n = .locked then [d] else [])
      triggers := s.transit.triggers ++ cutTriggers d (s.span d).state n k
      toClaim := s.transit.toClaim ++ [.notice (.spanChange d)] } := by
    rw [ht, State.handForcedIf_eq, State.handCutTrigger_eq]
    have hmt : m.transit = { s.transit with reports := m.transit.reports } := by
      rw [h2]; rfl
    simp only [State.handNotice]
    rw [hmt]
  have hfr : TransitSide m (s.moveSpan d n c f k) := by
    rw [ht]
    exact ((State.handForcedIf_side ..).trans (State.handCutTrigger_side ..)).trans rfl
  have hgr : (s.moveSpan d n c f k).grant = m.grant := hfr.grant
  have hct : (s.moveSpan d n c f k).ctrl = { spans := put s.ctrl.spans d r } := hfr.ctrl.trans hctrl
  have hso : ∀ i, (s.moveSpan d n c f k).source i = m.source i := fun i => by
    show look (s.moveSpan d n c f k).grant.sources i = _
    rw [hgr]; rfl
  have hexp : ∀ i, (s.moveSpan d n c f k).source i = if (s.source i).exposure.degree = some d then
      (s.source i).regranted (put s.ctrl.spans d r) else s.source i := fun i => by
    rw [hso, h1]
    simp only [hmem, hsrc]
    rfl
  constructor
  · show look (s.moveSpan d n c f k).ctrl.spans d = r
    rw [hct]; exact look_put_same ..
  · intro e he
    show look (s.moveSpan d n c f k).ctrl.spans e = _
    rw [hct]; exact look_put_ne _ _ (Ne.symm he)
  · intro i hi
    rw [hexp, if_pos hi, hct]
  · intro i hi
    rw [hexp, if_neg hi]
  · rw [htr, hs, hc]
    show m.transit.reports = _
    rw [h2]
    show (s.transit.reports ++ [_]) ++ _ = _
    rw [List.append_assoc, List.singleton_append]
    congr 2
    have hr := flatMap_sourceReport (s := s) (t := s.moveSpan d n c f k) true
      (fun i => (s.source i).exposure.degree == some d) s.source
      (fun i hi => ⟨by rw [hexp, hct]; simp_all, rfl⟩) (fun i hi => by rw [hexp]; simp_all)
    rw [hct] at hr
    exact hr
  · rw [htr, hs]
  · rw [htr, hs]
    cases k <;> rfl
  · rw [htr]
  · have := (State.moveSpan_side s d n c f k)
    rw [CtrlSide] at this
    rw [htr]
    rw [htr] at this
    exact this

/-! ### What a change of one span leaves for the next -/

/-- A state change of one span leaves everything that the blocker set, the roles and the profiles are read from. -/
theorem SpanChange.reads {s t : State} {d : Degree} {r : Span} {k : Option Key} (h : SpanChange s d r k t) :
    t.cond = s.cond ∧ t.words = s.words ∧ t.store = s.store ∧ t.claim = s.claim ∧ t.link = s.link ∧ t.now = s.now := by
  have := h.frame
  refine ⟨?_, ?_, ?_, ?_, ?_, ?_⟩ <;> (rw [this])

theorem SpanChange.blocked {s t : State} {d : Degree} {r : Span} {k : Option Key} (h : SpanChange s d r k t)
    (e : Degree) : t.blocked e = s.blocked e := by
  unfold State.blocked State.noOrdinal State.blockerKeys
  rw [h.reads.1, h.reads.2.1]

theorem SpanChange.limits {s t : State} {d : Degree} {r : Span} {k : Option Key} (h : SpanChange s d r k t)
    (e : Degree) : t.limits e = s.limits e := by
  unfold State.limits State.profile
  rw [h.reads.2.2.1]

/-! ### Entries -/

/-- Entry into DARK (R96): the record is the changed one with its interval timer loaded, its settle timer started where
nothing blocks, and its blocker view set. -/
theorem State.enterDark_change (s : State) (d : Degree) (c : SpanCause) (f : Span → Span) (k : Option Key)
    (hs : (f (((s.span d).enter .dark c).darken (s.blocked d))).state = .dark)
    (hc : (f (((s.span d).enter .dark c).darken (s.blocked d))).cause = c) :
    SpanChange s d (f (((s.span d).enter .dark c).darken (s.blocked d))) k (s.enterDark d c f k) :=
  State.moveSpan_change s d .dark c (fun r => f (r.darken (s.blocked d))) k hs hc

theorem State.clash_iff (s : State) (d : Degree) : s.clash d = true ↔ s.RoleClash d := by
  unfold State.clash ordinalsClash State.RoleClash
  cases (s.line d).far with
  | none => simp
  | some w =>
    rw [beq_iff_eq]
    exact ⟨fun h => ⟨w, rfl, h.symm⟩, fun ⟨_, hx, hw⟩ => by cases hx; exact hw.symm⟩

/-- Writing a record that keeps state, cause, ramp remaining and configuration over the record of a state change makes
the same state change, to the record written. -/
theorem SpanChange.setSpan {s t : State} {d : Degree} {r x : Span} {k : Option Key} (h : SpanChange s d r k t)
    (hs : x.state = r.state) (hc : x.cause = r.cause) (hr : x.remaining = r.remaining) (hg : x.config = r.config) :
    SpanChange s d x k (t.setSpan d x) := by
  have hl : ∀ e, (look (put t.ctrl.spans d x) e).state = (look t.ctrl.spans e).state ∧
      (look (put t.ctrl.spans d x) e).remaining = (look t.ctrl.spans e).remaining ∧
      (look (put t.ctrl.spans d x) e).config = (look t.ctrl.spans e).config := by
    intro e
    rw [look_put]
    split
    · next he =>
      subst he
      have : look t.ctrl.spans d = r := h.record
      rw [this]
      exact ⟨hs, hr, hg⟩
    · exact ⟨rfl, rfl, rfl⟩
  have hp : ∀ y, effProbe (put t.ctrl.spans d x) y = effProbe t.ctrl.spans y := fun y => by
    unfold effProbe
    split <;> simp only [(hl _).2.2]
  have hv : ∀ y n, rampValue (put t.ctrl.spans d x) y n = rampValue t.ctrl.spans y n := fun y n => by
    unfold rampValue
    rw [hp]
  have hcl : ∀ y, spanCeiling (put t.ctrl.spans d x) y = spanCeiling t.ctrl.spans y := fun y => by
    unfold spanCeiling
    split <;> simp only [(hl _).1, (hl _).2.1, hp, hv]
  have ho : ∀ y, offReasons (put t.ctrl.spans d x) y = offReasons t.ctrl.spans y := fun y => by
    unfold offReasons
    rw [hcl]
  have hgr : ∀ y, grantOf (put t.ctrl.spans d x) y = grantOf t.ctrl.spans y := fun y => by
    have : ceilingBound (put t.ctrl.spans d x) y = ceilingBound t.ctrl.spans y := by
      funext c
      cases c <;> simp [ceilingBound, hp]
    simp [grantOf, grantTerms, ho, hcl, hp, this]
  constructor
  · simp
  · intro e he
    rw [setSpan_span, if_neg (Ne.symm he)]
    exact h.others e he
  · intro i hi
    simp only [State.setSpan_ctrl, Source.regranted, hgr]
    exact h.exposed i hi
  · exact h.unexposed
  · simp only [enableReports, State.setSpan_ctrl, ho, State.setSpan_transit, State.source_setSpan, hs, hc]
    exact h.reports
  · rw [hs]; exact h.forced
  · rw [hs]; exact h.triggers
  · exact h.toClaim
  · have := h.frame
    show ({ t with ctrl := _ } : State) = _
    rw [this]
    rfl

/-- The record of an entry into AWAIT from DARK or PROBE with failed-probe count `n`: the interval timer is loaded where
the entry is from PROBE (R84, R106). -/
def awaitRecord (r : Span) (c : SpanCause) (n : Nat) : Span :=
  { r with
    state := .await, cause := c, failed := n, settle := none,
    interval := if r.state = .probe then some r.config.intervalMs else r.interval,
    probeTimer := none, rampTimer := none, origin := if r.state = .probe then none else r.origin,
    changes := r.changes + 1 }

/-- Entry into AWAIT (R106) with the failed-probe count `n`. -/
theorem State.enterAwait_entered (s : State) (d : Degree) (c : SpanCause) (n : Nat)
    (hw : (s.span d).state = .dark ∨ (s.span d).state = .probe) :
    AwaitEntered s d (awaitRecord (s.span d) c n) (s.enterAwait d c fun r => { r with failed := n }) := by
  have hna : ((s.span d).state == SpanState.await) = false := by rcases hw with h | h <;> simp [h]
  have hnr : (s.span d).state ≠ .ramp := by rcases hw with h | h <;> simp [h]
  let m := s.moveSpan d .await c (fun r => { (if (s.span d).state = .probe then
    { r with interval := some r.config.intervalMs } else r : Span) with failed := n }) none
  have hm : SpanChange s d (awaitRecord (s.span d) c n) none m := by
    have := s.moveSpan_change d .await c (fun r => { (if (s.span d).state = .probe then
      { r with interval := some r.config.intervalMs } else r : Span) with failed := n }) none
      (by dsimp only; split <;> rfl) (by dsimp only; split <;> rfl)
    convert this using 1
    unfold awaitRecord Span.enter
    rcases hw with h | h <;> simp [h, keepIf]
  have he : ¬s.RoleClash d →
      s.enterAwait d c (fun r => { r with failed := n }) = m.settleInAwait d := by
    intro h
    unfold State.enterAwait
    rw [if_neg (fun g => h ((s.clash_iff d).mp g))]
    dsimp only
    congr 2
    funext r
    split <;> rfl
  have hrec : m.span d = awaitRecord (s.span d) c n := hm.record
  constructor
  · intro h
    unfold State.enterAwait
    rw [if_pos ((s.clash_iff d).mpr h)]
    have := s.moveSpan_change d .held .roleClash (fun r => { r with failed := n }) none rfl rfl
    convert this using 1
    unfold awaitRecord Span.enter
    simp [keepIf, hna, hnr]
  · intro h hb
    refine ⟨m, hm, ?_⟩
    rw [he h]
    unfold State.settleInAwait
    rw [hm.blocked, hb, if_pos rfl]
    have := m.enterDark_change d .blocked id none rfl rfl
    convert this using 1
    rw [hm.blocked, hb, hrec]
    unfold awaitRecord Span.enter Span.darken
    simp [viewOf, SpanConfig.intervalMs, keepIf]
  · intro h hb ha
    rw [he h]
    unfold State.settleInAwait
    rw [hm.blocked, hb, hm.limits, hrec]
    have : ((s.limits d).autoRestart && (awaitRecord (s.span d) c n).role == .trailing) = true := by
      simp [ha.1, ha.2]
    simp only [this, Bool.false_eq_true, if_false, if_true]
    exact hm.setSpan rfl rfl rfl rfl
  · intro h hb ha
    rw [he h]
    unfold State.settleInAwait
    rw [hm.blocked, hb, hm.limits, hrec]
    have : ((s.limits d).autoRestart && (awaitRecord (s.span d) c n).role == .trailing) = false := by
      simpa using ha
    simp only [this, Bool.false_eq_true, if_false]
    exact hm

/-- Entry into AWAIT by a rule that keeps the failed-probe count. -/
theorem State.enterAwait_kept (s : State) (d : Degree) (c : SpanCause)
    (hw : (s.span d).state = .dark ∨ (s.span d).state = .probe) :
    AwaitEntered s d (awaitRecord (s.span d) c (s.span d).failed) (s.enterAwait d c id) := by
  have := s.enterAwait_entered d c (s.span d).failed hw
  have e : s.enterAwait d c (fun r => { r with failed := (s.span d).failed }) = s.enterAwait d c id := by
    unfold State.enterAwait State.moveSpan
    dsimp only
    have h1 : (({ (s.span d).enter .held .roleClash with failed := (s.span d).failed }) : Span) =
        id ((s.span d).enter .held .roleClash) := rfl
    split
    · rfl
    · split <;> rfl
  rwa [e] at this

/-- The test of confirmation (R112, R113). -/
theorem State.testConfirmation_tested (s : State) (d : Degree) (far : Option FarWord) :
    ConfirmationTested s d far (s.testConfirmation d far) := by
  have hc : ((s.span d).state = .probe ∧ s.confirmed d far = true) ↔ s.ProbeConfirmed d far := by
    unfold State.confirmed State.ProbeConfirmed farSeesLight
    cases far <;> simp [and_assoc]
  unfold State.testConfirmation
  constructor
  · intro h
    rw [if_neg (fun g => h (hc.mp g))]
  · intro h hd
    rw [if_pos (hc.mpr h), if_pos hd]
    have := s.moveSpan_change d .lit .confirmed id none rfl rfl
    convert this using 1
    unfold Span.enter
    simp [keepIf, h.1]
  · intro h hd
    rw [if_pos (hc.mpr h), if_neg hd]
    have := s.moveSpan_change d .ramp .confirmed Span.startRamp none rfl rfl
    convert this using 1
    unfold Span.enter Span.startRamp
    simp [keepIf, h.1]

end Sys2Proof.Machine
end

