-- ==== Sys2Proof/Tests/Slice0.lean ====
section
/-! SUPPORT. Small tests. First the ill-formed commands that WellFormed refuses; then figures that the spec itself works
out (chapters 1, 4, 10, 12, 13), each over one command on a small state; then, for every statement that has hypotheses, a
state and operands that meet them, clause by clause. -/

namespace Sys2Proof.Tests

open Sys2Proof.Machine

/-! ### Small states -/

/-- A result is a next state of which `f` holds. -/
def after (r : Result) (f : State → Bool) : Bool :=
  match r with
  | .next t => f t
  | .fault _ => false
  | .refused _ => false

def withSpan (d : Degree) (r : Span) : State := State.reset.setSpan d r

def withLine (r : Line) : State := State.reset.setLine 0 r

def withSource (r : Source) : State := State.reset.setSource 0 r

def withContact (r : Contact) : State := State.reset.setContact 0 r

def withActive (l : List CondRecord) : State := State.reset.setActive l

def withTransit (t : Transit) : State := { State.reset with transit := t }

def withLink (l : HostLink) : State := State.reset.setLink l

def withClaim (m : DegSet) (l : List Recorded) (s : State) : State :=
  s.setClaim { standing := some { degrees := m, recorded := l, life := 10000 }, lastEnd := .reset }

def withOrdinal (o : Ordinal) (s : State) : State := { s with words := { s.words with own := o } }

def fullRecord (k : Key) (p : Bool) (c : Option ClearCause) : CondRecord :=
  { key := k, raisedAt := 0, pending := p, clearDue := c, matched := [], withheld := 0 }

/-- A span record in a state, with the timers of that state running. -/
def spanIn (st : SpanState) : Span :=
  match st with
  | .lit => { defaultSpan with state := .lit }
  | .ramp => { defaultSpan with state := .ramp, remaining := 1500, rampTimer := some 0 }
  | .probe => { defaultSpan with state := .probe, probeTimer := some 0, origin := some .automatic }
  | .await => { defaultSpan with state := .await, interval := some 0 }
  | .dark => { defaultSpan with state := .dark, interval := some 0, settle := some 0, view := .empty }
  | .held => defaultSpan
  | .locked => { defaultSpan with state := .locked }

def far (o : Ordinal) (flags : BitVec 5) : FarWord :=
  { ordinal := o, degree := 0, zeros := 0, code := 0, flags := flags, spare := 0 }

def request (k : Byte) (p : List Byte) : Frame := { kind := k, tag := 7, payload := p }

/-! ### Ill-formed commands -/

theorem test_putEntry_short_list :
    (Instr.putEntry 0xFF 1 ⟨0, 0, 0xFF⟩ 0 1 [] 0 0).wellFormed = false := by decide

theorem test_putEntry_long_list :
    (Instr.putEntry 0xFF 1 ⟨0, 0, 0xFF⟩ 0 9 (List.replicate 5 ⟨0, 0, 0⟩) 0 0).wellFormed = false := by decide

theorem test_resume_two_for_one : (Instr.resume 1 [0, 1]).wellFormed = false := by decide

theorem test_unlock_no_degree : (Instr.unlock 0 []).wellFormed = false := by decide

theorem test_probeNow_one_for_two : (Instr.probeNow 2 20 [0]).wellFormed = false := by decide

theorem test_claim_three_degrees : (Instr.claim 3 [0, 1, 2]).wellFormed = false := by decide

theorem test_claim_count_out_of_range : (Instr.claim 3 [0]).wellFormed = true := by decide

/-! ### Figures of the spec -/

/-- Over 123456789 the CRC-16 gives 29B1h (R179). -/
def digits : List Byte := [0x31, 0x32, 0x33, 0x34, 0x35, 0x36, 0x37, 0x38, 0x39]

set_option maxRecDepth 10000 in
theorem test_crc16_of_digits : crc16 digits = 0x29B1#16 := by decide

set_option maxRecDepth 10000 in
theorem test_crc8_of_digits : crc8 digits = 0xF4#8 := by decide

/-- v runs from 0 at n = 1 to 3612 at n = 4095 (R6). -/
theorem test_log_ends : milliLog10 1 = 0 ∧ milliLog10 4095 = 3612 := by decide

theorem test_log_exact : milliLog10 10 = 1000 ∧ milliLog10 100 = 2000 ∧ milliLog10 1000 = 3000 := by decide

/-- A front end whose channel `c` has a calibration. -/
def calibrated (c : ChannelNo) (dark : Nat) (gain : Int) (s : State) : State :=
  { s with front := { s.front with calib := put s.front.calib c { dark := dark, gain := gain } } }

/-- 01, Worked Conversions: code 1850 with offsets 50 and −4200 gives −945. -/
theorem test_received_power :
    after (exec (.monitorReading 4 1850#12 true) (calibrated 4 50 (-4200) State.reset))
      (fun t => (look t.front.last 4).value == -945) = true := by decide

/-- 01, Worked Conversions: codes 3000 and 900 give +1971, −566 and the ratio −2537. -/
theorem test_ratio :
    after (exec (.monitorReading 1 3000#12 true) (calibrated 2 40 (-3500) (calibrated 1 40 (-1500) State.reset)))
      (fun s => after (exec (.monitorReading 2 900#12 true) s)
        (fun t => look t.front.ratio 0 == { r := -2537, evaluated := true })) = true := by decide

/-- 01, Worked Conversions: with dark offset 50 the codes 30 and 50 give −6000, and 51 gives the gain offset. -/
theorem test_below_dark :
    convert { dark := 50, gain := 120 } 30#12 = -6000 ∧ convert { dark := 50, gain := 120 } 50#12 = -6000 ∧
      convert { dark := 50, gain := 120 } 51#12 = 120 := by decide

/-- 13, A Cut, a Repair and a Two-Ended Restart: the fifteenth ramp step of 100 from 1500 ends the ramp. -/
theorem test_last_ramp_step :
    after (exec (.rampStepExpiry 0) (withSpan 0 { spanIn .ramp with remaining := 100 }))
      (fun t => (t.span 0).state == .lit && (t.span 0).cause == .rampDone && (t.span 0).failed == 0) = true := by decide

theorem test_first_ramp_step :
    after (exec (.rampStepExpiry 0) (withSpan 0 (spanIn .ramp)))
      (fun t => (t.span 0).state == .ramp && (t.span 0).remaining == 1400) = true := by decide

/-- 13, Bringing an In-Line Hut Into Service: SET_SITE 30; 23, 41, 0, 0 hands a change of the ordinal to four spans. -/
theorem test_setSite :
    after (exec (.setSite 30 23 41 0 0) State.reset) (fun t => t.words.own == 30 && (t.line 1).expected == 41 &&
      t.transit.fromLine == (List.finRange 4).map fun d => (d, .ordinal true)) = true := by decide

/-- 13, A Capture Skipped, Then One Read Out: with both buffers not EMPTY a trigger is skipped. -/
theorem test_capture_skipped :
    after (exec (.captureTrigger 1) { withTransit { emptyTransit with triggers := [(1, degreeKey .darkIn 1)] } with
      capture := { defaultCapture with
        buffers := Vector.replicate 2 (.complete { degree := 2, key := shutKey, at_ := 0, pre := [], post := [] }) } })
      (fun t => t.transit.reports ==
        [{ report := .captureSkipped 1 (degreeKey .darkIn 1) 0, afterSpan := false }]) = true := by decide

/-- R178: RESET_PART (24h) under tag 7 with no payload is A5h, 02h, 24h, 07h and the check code. -/
theorem test_frame_head : (frameBytes 0x24 7 []).take 4 = [0xA5, 0x02, 0x24, 0x07] := by decide

/-- R180: ordinal 17 on D2, LIT with light seen, is C3h, 01h, 18h, 08h, 00h. -/
theorem test_span_word_head :
    spanWordHead 17 2 (stateCode .lit) (sentFlags .lit false true) = [0xC3, 0x01, 0x18, 0x08, 0x00] := by decide

/-- R183: START in HELD of D3 is 02h with the state codes 5 and 5 and the cause 0. -/
theorem test_span_report :
    (Report.span 3 .held .held .start 0).bytes = [2, 0, 0, 0, 0, 3, 5, 5, 0, 0, 0, 0, 0, 0] := by decide

/-- 04, the default setpoints: a source exposed OUT on a LIT span with hold NONE has its full setpoint. -/
theorem test_grant_of_lit_source :
    grantOf (withSpan 0 (spanIn .lit)).ctrl.spans { defaultSource with exposure := .out 0, hold := .none } = some 1700 := by
  decide

/-! ### Witnesses: the step, the resets, the whole machine -/

theorem witness_StepTakesTheFrontCommand :
    ({ State.reset with pending := [.lookup, .readReports] } : State).pending = .lookup :: [.readReports] := rfl

theorem witness_AnIdleStepIsOneMillisecond : State.reset.pending = [] := rfl

/-- RESET_PART with its reply at the head of the list. -/
def restarting : HostLink :=
  { defaultLink with
    hand := some { frame := request 0x24 [], answered := true }, replies := [{ busy := false, bytes := [] }] }

theorem witness_SoftReset :
    (withLink restarting).link.hand = some { frame := request 0x24 [], answered := true } ∧
      (request 0x24 []).kind = 0x24 ∧ (request 0x24 []).payload = [] ∧
      (withLink restarting).link.replies = { busy := false, bytes := [] } :: [] ∧
      (withLink restarting).cond.shut.asserted = false ∧
      ((withLink restarting).setShut { asserted := true, raised := true, delay := none }).cond.shut.asserted = true := by
  decide

theorem witness_PowerOnReset_asserted :
    (State.reset.setShut { asserted := true, raised := true, delay := none }).cond.shut.asserted = true ∧
      State.reset.cond.shut.asserted = false := by decide

theorem witness_ConfigurationChangesOnlyByItsOwnRequest :
    Instr.setNotify 3 ≠ .powerOnReset ∧ ∃ t, exec (.setNotify 3) State.reset = .next t ∧ t.link.notify ≠ 0b1111#4 :=
  ⟨by decide, _, rfl, by decide⟩

theorem witness_LockedIsLeftByUnlockOrReset :
    ((withSpan 0 (spanIn .locked)).span 0).state = .locked ∧
      (∃ t, exec (.powerOnReset) (withSpan 0 (spanIn .locked)) = .next t) ∧ NamesDegrees 1 [3] 8 :=
  ⟨by decide, ⟨_, rfl⟩, (degrees?_eq_some ..).mp (by decide)⟩

/-- R98: UNLOCK naming D1 leaves D0 LOCKED. -/
theorem test_unlock_of_another_degree :
    after (exec (.unlock 1 [1]) (withClaim 2 [{ degree := 1, changes := 0, touch := 0 }]
      ((withSpan 0 (spanIn .locked)).setSpan 1 (spanIn .locked))))
      (fun t => (t.span 0).state == .locked && (t.span 1).state == .dark) = true := by decide

theorem witness_LitIsEnteredByRampEndOrConfirmation :
    ((withSpan 0 { spanIn .ramp with remaining := 100 }).span 0).state ≠ .lit ∧
      ∃ t, exec (.rampStepExpiry 0) (withSpan 0 { spanIn .ramp with remaining := 100 }) = .next t ∧
        (t.span 0).state = .lit := ⟨by decide, _, rfl, by decide⟩

/-! ### Witnesses: readings and conditions -/

theorem witness_ConversionOfAValidReading :
    (16#12).toNat ≤ defaultCalibration.dark ∧ defaultCalibration.dark < (17#12).toNat := by decide

/-- A PROBE on D0 with ramp depth 0, with LIGHT_SEEN from the far end, and DARK_IN seen till its clear. -/
def lighting : State :=
  { ((withSpan 0 { spanIn .probe with seenDark := true, config := { defaultSpanConfig with rampDepth := 0 } }).setLine 0
      { defaultLine with far := some (far 20 0b01000#5) }) with
    transit := { emptyTransit with toSpan := [.clear (degreeKey .darkIn 0) 0] } }

theorem witness_LitIsEnteredByRampEndOrConfirmation_clear :
    (lighting.span 0).state ≠ .lit ∧
      ∃ t, exec .clearAtSpanController lighting = .next t ∧ (t.span 0).state = .lit := ⟨by decide, _, rfl, by decide⟩

/-- Seven readings below dark_level have been counted on D0. -/
def darkening : State :=
  { State.reset with cond := { defaultCondUnit with dark := put defaultCondUnit.dark 0 { raised := false, counter := 7 } } }

theorem witness_WhatReadingsDecideIsTaken :
    16#12 ≠ 4095#12 ∧ (look darkening.cond.fault (channel 0 0)).raised = false ∧
      convert (look darkening.front.calib (channel 0 0)) 16#12 < (darkening.limits 0).darkLevel ∧
      (look darkening.cond.dark 0).raised = false ∧
      (darkening.limits 0).darkRaise ≤ (look darkening.cond.dark 0).counter + 1 ∧
      ∀ r ∈ darkening.cond.active, r.key ≠ degreeKey .darkIn 0 := by decide

/-- A snapshot on its way to the record of MASTER_SHUT. -/
def snapshotState (e : SnapshotEvent) (p : Bool) (c : Option ClearCause) : State :=
  { withActive [fullRecord shutKey p c] with transit := { emptyTransit with snapshots := [e] } }

theorem witness_SnapshotsAreWritten_lookup : ∀ c ∈ [none, some ClearCause.normal],
    (snapshotState (.lookup shutKey [2] 1) true c).transit.snapshots = .lookup shutKey [2] 1 :: [] ∧
      (snapshotState (.lookup shutKey [2] 1) true c).record? shutKey = some (fullRecord shutKey true c) := by decide

theorem witness_SnapshotsAreWritten_rewritten :
    (snapshotState (.rewritten shutKey [2] 1) false none).transit.snapshots = .rewritten shutKey [2] 1 :: [] ∧
      (snapshotState (.rewritten shutKey [2] 1) false none).record? shutKey = some (fullRecord shutKey false none) ∧
      (snapshotState (.rewritten shutKey [2] 1) true none).record? shutKey = some (fullRecord shutKey true none) ∧
      (withTransit { emptyTransit with snapshots := [.rewritten shutKey [2] 1] }).record? shutKey = none := by decide

/-- A dark entry of D0 on its way, with the REFLECT(D0) qualifier in a state and records in the list. -/
def darkEntry (raised : Bool) (l : List CondRecord) : State :=
  { State.reset with
    cond := { defaultCondUnit with refl := put defaultCondUnit.refl 0 { raised := raised, counter := 3 }, active := l }
    transit := { emptyTransit with forced := [0] } }

theorem witness_AForcedClearEndsReflect :
    0 ∈ (darkEntry false []).transit.forced ∧ (look (darkEntry false []).cond.refl 0).raised = false ∧
      ∀ p ∈ [true, false], 0 ∈ (darkEntry true [fullRecord (degreeKey .reflect 0) p none]).transit.forced ∧
        (look (darkEntry true [fullRecord (degreeKey .reflect 0) p none]).cond.refl 0).raised = true ∧
        (darkEntry true [fullRecord (degreeKey .reflect 0) p none]).record? (degreeKey .reflect 0) =
          some (fullRecord (degreeKey .reflect 0) p none) := by decide

theorem witness_ZeroingKeepsEveryQualifierState :
    (withTransit { emptyTransit with zeroings := 1 }).transit.zeroings = 0 + 1 := rfl

/-- A contact whose timer runs, with the condition record it has raised. -/
def keyed (u : ContactUse) (v : Level) (l : List CondRecord) : State :=
  { withContact { defaultContact with use := u, level := v, timer := some 0 } with
    cond := { (withContact { defaultContact with use := u, level := v, timer := some 0 }).cond with active := l } }

def turned : Key := { kind := .keyOpen, degree := none, detail := some (.contact 0) }

def opened : Key := { kind := .guardOpen, degree := none, detail := some (.contact 0) }

theorem witness_AContactIsDebounced :
    (State.reset.contact 0).timer ≠ some 0 ∧ ((keyed .key .low []).contact 0).timer = some 0 ∧
      ((keyed .unused .low []).contact 0).use = .unused ∧ ((keyed .key .low []).contact 0).use = .key ∧
      ((keyed .key .low []).contact 0).level = ((keyed .key .low []).contact 0).openLevel ∧
      (keyed .key .low []).contactRecord? 0 = none := by decide

theorem witness_AContactIsDebounced_waits :
    ((keyed .guard .low [fullRecord turned true (some .reconfigured)]).contact 0).use = .guard ∧
      (keyed .guard .low [fullRecord turned true (some .reconfigured)]).contactRecord? 0 =
        some (fullRecord turned true (some .reconfigured)) ∧ turned ≠ opened := by decide

theorem witness_AContactIsDebounced_closed : ∀ c ∈ [none, some ClearCause.normal],
    ((keyed .key .high [fullRecord turned true c]).contact 0).level ≠
        ((keyed .key .high [fullRecord turned true c]).contact 0).openLevel ∧
      ((keyed .key .high [fullRecord turned true c]).contact 0).waiting = none ∧
      (keyed .key .high [fullRecord turned true c]).contactRecord? 0 = some (fullRecord turned true c) := by decide

/-- KEY_OPEN of K0 pending, its clear fallen due by SET_CONTACT, and GUARD_OPEN of K0 waiting for it (R22). -/
def waitingFor (v : Level) : State :=
  { withContact { defaultContact with use := .guard, level := v, timer := some 0, waiting := some opened } with
    cond := { (withContact { defaultContact with use := .guard, level := v, timer := some 0, waiting := some opened }).cond
      with active := [fullRecord turned true (some .reconfigured)] }
    transit := { emptyTransit with snapshots := [.lookup turned [] 0] } }

theorem witness_AContactIsDebounced_cancels :
    ((waitingFor .high).contact 0).waiting = some opened ∧ ((waitingFor .high).contact 0).timer = some 0 ∧
      ((waitingFor .high).contact 0).level ≠ ((waitingFor .high).contact 0).openLevel ∧
      turned.detail = some (.contact 0) ∧
      (waitingFor .high).record? turned = some (fullRecord turned true (some .reconfigured)) := by decide

/-- R22: the waiting raise is taken directly after the deferred clear. -/
theorem test_waiting_raise_follows :
    after (exec .snapshotWrite (waitingFor .low)) (fun t => t.cond.active == [fullRecord opened true none] &&
      (t.contact 0).waiting == none && t.map.queue == [.key opened]) = true := by decide

/-- R22: a clear decided for the contact cancels the waiting raise. -/
theorem test_waiting_raise_cancelled :
    after (exec (.debounceExpiry 0) (waitingFor .high)) (fun t => (t.contact 0).waiting == none &&
      t.cond.active == [fullRecord turned true (some .reconfigured)] && t.map.queue == []) = true := by decide

/-- MASTER_SHUT raised, its clear delay over. -/
def shutting : State :=
  (withActive [fullRecord shutKey false none]).setShut { asserted := false, raised := true, delay := some 0 }

theorem witness_TheMasterShutInput :
    shutting.cond.shut.raised = true ∧ shutting.cond.shut.delay = some 0 ∧
      shutting.record? shutKey = some (fullRecord shutKey false none) ∧ State.reset.cond.shut.raised = false ∧
      (shutting.setActive [fullRecord shutKey true (some .normal)]).record? shutKey =
        some (fullRecord shutKey true (some .normal)) ∧
      State.reset.record? shutKey = none ∧ State.reset.cond.shut.delay ≠ some 0 := by decide

theorem witness_AContactIsReconfigured :
    8 ≤ (8#8).toNat ∧ 3 ≤ (3#8).toNat ∧ 2 ≤ (2#8).toNat ∧ (4 ≤ (4#8).toNat ∧ 4#8 ≠ 0xFF) ∧
      7#8 = BitVec.ofNat 8 (7 : ContactNo).val ∧
      3#8 = (((some 3 : Option Degree)).map fun e => BitVec.ofNat 8 e.val).getD 0xFF ∧
      0xFF#8 = (((none : Option Degree)).map fun e => BitVec.ofNat 8 e.val).getD 0xFF ∧
      (State.reset.contact 7).waiting = none ∧
      State.reset.contactRecord? 7 = none ∧
      (keyed .key .high [fullRecord turned false none]).contactRecord? 0 = some (fullRecord turned false none) ∧
      ((keyed .key .high [fullRecord turned false none]).contact 0).waiting = none := by decide

/-! ### Witnesses: requests -/

/-- A link with a request in hand whose reply is not formed. -/
def asked (k : Byte) (p : List Byte) : HostLink :=
  { defaultLink with hand := some { frame := request k p, answered := false } }

theorem witness_EveryRequestFormsOneReply :
    requestKind .readReports ≠ none ∧ Instr.readReports ≠ .resetPart ∧
      (withLink (asked 0x21 [])).awaits = some .readReports ∧ State.reset.awaits ≠ some .readReports ∧
      (withLink (asked 0x21 [])).link.hand = some { frame := request 0x21 [], answered := false } := by decide

theorem witness_QueriesOfReadingsConditionsAndTheMap :
    1 ≤ (1#8).toNat ∧ (15#8).toNat + (1#8).toNat ≤ 16 ∧ (52#8).toNat ≤ 52 ∧
      (withActive [fullRecord shutKey false none]).cond.active[(0#8).toNat]? = some (fullRecord shutKey false none) ∧
      State.reset.cond.active.length ≤ (52#8).toNat ∧ 63#8 = BitVec.ofNat 8 (63 : EntryNo).val ∧
      State.reset.entry 63 = .free ∧ (3#8).toNat ≤ 3 := by decide

/-- R40: the tested keys of MASTER_SHUT, of MONITOR_FAULT of channel 7 and of KEY_OPEN of K7 without a degree; and none with
MASTER_SHUT and a degree, with channel 7 and another degree, or with DARK_IN and no degree. -/
theorem witness_QueriesOfReadingsConditionsAndTheMap_keys :
    SpellsTestedKey ⟨10, 0xFF, 0xFF⟩ shutKey ∧
      SpellsTestedKey ⟨3, 1, 7⟩ { kind := .monitorFault, degree := some 1, detail := some (.channel 7) } ∧
      SpellsTestedKey ⟨9, 0xFF, 7⟩ { kind := .keyOpen, degree := none, detail := some (.contact 7) } ∧
      ∀ r ∈ [RawKey.mk 10 0 0xFF, ⟨3, 0, 7⟩, ⟨0, 0xFF, 0xFF⟩], ∀ k, ¬SpellsTestedKey r k := by
  simp only [← testedKey?_eq_some]
  refine ⟨by decide, by decide, by decide, fun r hr k h => ?_⟩
  have : ∀ r ∈ [RawKey.mk 10 0 0xFF, ⟨3, 0, 7⟩, ⟨0, 0xFF, 0xFF⟩], testedKey? r = none := by decide
  rw [this r hr] at h
  cases h

theorem witness_QueriesOfSourcesSpansLinesAndProfiles :
    15#8 = BitVec.ofNat 8 (15 : SourceNo).val ∧ 3#8 = BitVec.ofNat 8 (3 : Degree).val ∧
      1#8 = BitVec.ofNat 8 (1 : ProfileNo).val ∧ (State.reset.line 3).sent = none ∧
      ((withLine { defaultLine with sent := some [0xC3] }).line 0).sent = some [0xC3] := by decide

/-- R73: after a power-on reset a source is OFF because it is UNUSED and its hold is OFF. -/
theorem test_off_reasons_after_reset : offReasons State.reset.ctrl.spans defaultSource = 0b00101#5 := by decide

theorem witness_QueriesOfClaimsCapturesAndIdentity :
    1#8 = BitVec.ofNat 8 (1 : BufferNo).val ∧ (7#8).toNat < 8 ∧ State.reset.claim.standing = none ∧
      (withClaim 1 [] State.reset).claim.standing = some { degrees := 1, recorded := [], life := 10000 } ∧
      ∀ t, look State.reset.capture.buffers 1 ≠ .complete t := by
  refine ⟨by decide, by decide, by decide, by decide, fun t => ?_⟩
  rw [show look State.reset.capture.buffers 1 = .empty by decide]
  exact Buffer.noConfusion

theorem witness_QueriesOfClaimsCapturesAndIdentity_capture :
    look (put defaultCapture.buffers 1 (.complete { degree := 0, key := shutKey, at_ := 0, pre := [], post := [] })) 1 =
      .complete { degree := 0, key := shutKey, at_ := 0, pre := [], post := [] } := by decide

theorem witness_FieldsAreCodedAndOutOfRangeIsRefused :
    16 ≤ (16#8).toNat ∧ 64 ≤ (64#8).toNat ∧ 53 ≤ (53#8).toNat ∧ 4 ≤ (4#8).toNat ∧ 2 ≤ (2#8).toNat ∧ 8 ≤ (8#8).toNat ∧
      16 < (15#8).toNat + (2#8).toNat ∧ ([0, 0] : List Byte).length = (2#8).toNat ∧
      ([0] : List Byte).length ≠ (2#8).toNat ∧ ([] : List Byte).length ≠ 1 := by decide

theorem witness_FieldsAreCodedAndOutOfRangeIsRefused_degrees :
    ∀ l ∈ [[0, 0], [0, 4]], ∀ m, ¬NamesDegrees 2 l m := by
  intro l hl m h
  rw [← degrees?_eq_some] at h
  have : ∀ l ∈ [[0, 0], [0, 4]], degrees? 2 l = none := by decide
  rw [this l hl] at h
  cases h

/-- The longest PUT_ENTRY that R184 lets be sent. -/
def longestPut : Instr := .putEntry 0xFF 1 ⟨0, 0, 0xFF⟩ 0 4 (List.replicate 4 ⟨15, 2, 1⟩) 0x0F 0x0F

theorem witness_RequestPayloadsAreReadBack :
    longestPut.wellFormed = true ∧ requestKind longestPut = some 0x06 ∧
      checkRequest 0x06 (requestPayload longestPut) = .request longestPut := by decide

/-- R169: a PUT_ENTRY whose count is out of its range passes at any length from 9 to 21. -/
theorem test_putEntry_count_out_of_range :
    checkRequest 0x06 [0xFF, 1, 0, 0, 0xFF, 0, 9, 0x0F, 0x0F, 7] =
      .request (.putEntry 0xFF 1 ⟨0, 0, 0xFF⟩ 0 9 [] 0x0F 0x0F) := by decide

/-! ### Witnesses: the hazard map and the grant unit -/

def queued (q : List MapItem) : State := State.reset.setQueue q

theorem witness_ALookupIssuesItsOrders : (queued [.key shutKey, .reevaluate]).map.queue = .key shutKey :: [.reevaluate] :=
  rfl

theorem witness_AReevaluationMovesEveryRecord :
    (queued [.reevaluate, .key shutKey]).map.queue = .reevaluate :: [.key shutKey] := rfl

def content : EntryContent :=
  { key := { kind := .darkIn, degree := none, detail := none }, cls := 3, actions := [], cut := 0, withhold := 0xF }

theorem witness_EntriesAreEdited_put :
    ([] : List RawAction).length = (0#8).toNat ∧ 4 < (List.replicate 5 (RawAction.mk 0 0 0)).length ∧
      ([] : List RawAction).length ≠ (1#8).toNat ∧ (3#8 ≠ 1 ∧ 3#8 ≠ 2) ∧ (64 ≤ (64#8).toNat ∧ 64#8 ≠ 0xFF) ∧
      63#8 = BitVec.ofNat 8 (63 : EntryNo).val ∧ State.reset.entry 0 = .free ∧
      (∀ f < (0 : EntryNo), State.reset.entry f ≠ .free) := by decide

/-- The content of four actions at the ends of their ranges, on the key of MONITOR_FAULT of channel 15 and any degree. -/
def fullContent : EntryContent :=
  { key := { kind := .monitorFault, degree := none, detail := some (.channel 15) }, cls := 3
    actions := [⟨15, .reduced, .latch⟩, ⟨0, .off, .follow⟩, ⟨1, .probe, .latch⟩, ⟨2, .off, .latch⟩], cut := 0xF
    withhold := 0 }

/-- R43: no action, and four, pass; a class of 4, a set with bit 4, a source named twice and a key that no instance carries
do not. -/
theorem witness_EntriesAreEdited_content :
    EntrySpelt ⟨0, 0xFF, 0xFF⟩ 3 0 [] 0 0xF content ∧
      EntrySpelt ⟨3, 0xFF, 15⟩ 3 4 [⟨15, 2, 1⟩, ⟨0, 0, 0⟩, ⟨1, 1, 1⟩, ⟨2, 0, 1⟩] 0xF 0 fullContent ∧
      ∀ c, ¬EntrySpelt ⟨0, 0xFF, 0xFF⟩ 4 0 [] 0 0xF c ∧ ¬EntrySpelt ⟨0, 0xFF, 0xFF⟩ 3 0 [] 16 0xF c ∧
        ¬EntrySpelt ⟨0, 0xFF, 0xFF⟩ 3 2 [⟨0, 0, 0⟩, ⟨0, 1, 0⟩] 0 0xF c ∧ ¬EntrySpelt ⟨10, 0, 0xFF⟩ 3 0 [] 0 0xF c := by
  simp only [← entryContent?_eq_some]
  refine ⟨by decide, by decide, fun c => ?_⟩
  rw [show entryContent? ⟨0, 0xFF, 0xFF⟩ 4 0 [] 0 0xF = none by decide,
    show entryContent? ⟨0, 0xFF, 0xFF⟩ 3 0 [] 16 0xF = none by decide,
    show entryContent? ⟨0, 0xFF, 0xFF⟩ 3 2 [⟨0, 0, 0⟩, ⟨0, 1, 0⟩] 0 0xF = none by decide,
    show entryContent? ⟨10, 0, 0xFF⟩ 3 0 [] 0 0xF = none by decide]
  exact ⟨nofun, nofun, nofun, nofun⟩

theorem witness_EntriesAreEdited_full : ∀ e, ({ State.reset with
    map := { defaultMap with entries := Vector.replicate 64 (.live content) } } : State).entry e ≠ .free := by
  intro e
  simp [State.entry, look]

theorem witness_EntriesAreEdited :
    64 ≤ (64#8).toNat ∧ 63#8 = BitVec.ofNat 8 (63 : EntryNo).val ∧ State.reset.entry 63 = .free ∧
      (State.reset.setEntry 63 (.live content)).entry 63 = .live content ∧
      (State.reset.setEntry 63 (.parked content)).entry 63 = .parked content := by decide

def boosted : Source := { defaultSource with exposure := .out 0, hold := .none }

theorem witness_EffectiveValuesAndSpanCeilings :
    boosted.exposure = .out 0 ∧ ({ boosted with exposure := .inn 0 } : Source).exposure = .inn 0 ∧
      ({ boosted with exposure := .enclosed } : Source).exposure = .enclosed ∧ defaultSource.exposure = .unused ∧
      ∀ st ∈ [SpanState.lit, .ramp, .probe, .await, .dark, .held, .locked],
        (look (withSpan 0 (spanIn st)).ctrl.spans 0).state = st ∧
        grantOf (withSpan 0 (spanIn .probe)).ctrl.spans boosted = some 800 := by decide

theorem witness_TheGrantIsTheLowestTerm :
    grantOf (withSpan 0 (spanIn .lit)).ctrl.spans boosted = some 1700 ∧ Within (-1000) 3000 boosted.full ∧
      Within (-1000) 3000 boosted.reduced ∧ Within (-1000) 3000 boosted.probe ∧
      ∀ d, -1000 ≤ (look (withSpan 0 (spanIn .lit)).ctrl.spans d).config.hazardLimit := by
  refine ⟨by decide, ⟨by decide, by decide⟩, ⟨by decide, by decide⟩, ⟨by decide, by decide⟩, by decide⟩

def restricted (n : Nat) (e : Option EntryNo) (p : Persistence) : Source :=
  { boosted with
    restrictions := List.replicate n
      { origin := { key := shutKey, entry := e }, ceiling := .reduced, persistence := p, latched := false } }

def ordered (e : GrantEvent) (x : Source) : State :=
  { withSource x with transit := { emptyTransit with toGrant := [e] } }

def shutOrder (g : Target) : GrantEvent := .restriction g .off .follow { key := shutKey, entry := none }

theorem witness_ARestrictionOrderIsTaken :
    (ordered (shutOrder .every) (restricted 8 (some 1) .latch)).transit.toGrant = shutOrder .every :: [] ∧
      (∃ r ∈ ((ordered (shutOrder .every) (restricted 1 none .follow)).source 0).restrictions,
        r.origin = { key := shutKey, entry := none }) ∧
      (∀ n ∈ [7, 8], (∀ r ∈ ((ordered (shutOrder .every) (restricted n (some 1) .latch)).source 0).restrictions,
          r.origin ≠ { key := shutKey, entry := none }) ∧
        ((ordered (shutOrder .every) (restricted n (some 1) .latch)).source 0).restrictions.length = n) ∧
      Target.exposure (.out 0) = .exposure ((ordered (shutOrder .every) boosted).source 0).exposure := by decide

/-- Sixteen sources that MASTER_SHUT's floor order met full, whose records have left since. -/
def shutDown : State :=
  { State.reset with grant := { sources := Vector.replicate 16 { boosted with lostShut := true } } }

theorem witness_EveryGrantIsOffUntilTheClearOfMasterShut :
    (ordered (.restriction .every .off .follow shutFloor) (restricted 8 (some 1) .latch)).transit.toGrant =
        .restriction .every .off .follow shutFloor :: [] ∧
      (∀ j, ShutHeld (shutDown.source j) ∧ (shutDown.source j).grant = none) ∧ shutDown.ShutOrdersSafe ∧
      ∃ t, exec .restrictionOrder shutDown = .next t := by
  refine ⟨by decide, fun j => ?_, ⟨fun _ _ _ _ h => absurd h List.not_mem_nil, fun _ h => absurd h List.not_mem_nil⟩,
    _, rfl⟩
  have : shutDown.source j = { boosted with lostShut := true } := by simp [State.source, shutDown, look]
  rw [this]
  exact ⟨.inl rfl, rfl⟩

/-- R67, R75: the eight records that MASTER_SHUT's floor order met have left; the mark goes, the grant stays OFF until
the clear of MASTER_SHUT, which no record is left to hear (notes/assumptions/30.md). -/
theorem test_lost_shut_order :
    let x : Source := { restricted 8 (some 1) .latch with exposure := .enclosed, overflow := true, lostShut := true }
    let y : Source := { x with restrictions := x.restrictions.map fun r : Restriction => { r with latched := true } }
    let z := y.takeRelease
    z.overflow = false ∧ grantOf State.reset.ctrl.spans z = none ∧
      grantOf State.reset.ctrl.spans (z.takeClear shutKey) = some 1700 := by decide

theorem witness_ClearsAndRemovalsAtTheGrantUnit :
    (ordered (.clear shutKey) (restricted 1 none .follow)).transit.toGrant = .clear shutKey :: [] ∧
      (ordered (.removal { key := shutKey, entry := some 1 }) (restricted 1 (some 1) .latch)).transit.toGrant =
        .removal { key := shutKey, entry := some 1 } :: [] := by decide

theorem witness_AnOperatorHoldIsSet :
    16 ≤ (16#8).toNat ∧ 4 ≤ (4#8).toNat ∧ 15#8 = BitVec.ofNat 8 (15 : SourceNo).val ∧ 3#8 = holdByte .none ∧
      (∃ v, grantOf (withSpan 0 (spanIn .lit)).ctrl.spans { boosted with hold := .probe } = some v) := by
  refine ⟨by decide, by decide, by decide, by decide, 800, by decide⟩

theorem witness_ASourceIsConfigured :
    16 ≤ (16#8).toNat ∧ 4 ≤ (4#8).toNat ∧ ((1#8).toNat < 2 ∧ 4 ≤ (4#8).toNat) ∧
      15#8 = BitVec.ofNat 8 (15 : SourceNo).val ∧ 3#8 = BitVec.ofNat 8 (3 : Degree).val ∧
      floorEvents shutKey = [.restriction .every .off .follow shutFloor] ∧ (State.reset.source 15).exposure ≠ .inn 3 ∧
      floorEvents (degreeKey .pumpReflect 3) =
        [.restriction (.exposure (.inn 3)) .off .follow { key := degreeKey .pumpReflect 3, entry := none }] ∧
      (withActive [fullRecord shutKey false none]).cond.active = [fullRecord shutKey false none] := by decide

theorem witness_LatchesAreReleasedUnderAClaim :
    0#8 = BitVec.ofNat 8 (0 : SourceNo).val ∧ (State.reset.source 0).exposure.degree = none ∧
      ((withSource boosted).source 0).exposure.degree = some 0 ∧
      (∀ r ∈ [({ degree := 0, changes := 0, touch := 0 } : Recorded)],
        r.changes = ((withSource boosted).span r.degree).changes ∧
        r.touch = look (withSource boosted).cond.touch r.degree) ∧
      (withSource boosted).claimCheck (DegSet.one 0) = some .absent ∧
      (withClaim 2 [] (withSource boosted)).claimCheck (DegSet.one 0) = some .setMismatch ∧
      (withClaim 1 [{ degree := 0, changes := 1, touch := 0 }] (withSource boosted)).claimCheck (DegSet.one 0) =
        some .stale := by decide

/-! ### Witnesses: the span controller -/

def told (e : SpanEvent) (r : Span) : State :=
  { withSpan 0 r with transit := { emptyTransit with toSpan := [e] } }

def cutEvent : SpanEvent := .cut 0 (degreeKey .darkIn 0)

theorem witness_ACutOrderIsTaken : ∀ st ∈ [SpanState.lit, .ramp, .probe, .await, .dark, .held, .locked],
    (told cutEvent (spanIn st)).transit.toSpan = .cut 0 (degreeKey .darkIn 0) :: [] ∧
      ((told cutEvent (spanIn st)).span 0).state = st ∧ min 15 ((spanIn st).failed + 1) < (spanIn st).config.probeLimit ∧
      ({ spanIn st with failed := 4 } : Span).config.probeLimit ≤ min 15 (({ spanIn st with failed := 4 } : Span).failed + 1) := by
  decide

theorem witness_ALockOrderIsTaken :
    (told (.lock 0 .key) (spanIn .lit)).transit.toSpan = .lock 0 .key :: [] ∧
      (told (.lock 0 .command) (spanIn .locked)).transit.toSpan = .lock 0 .command :: [] ∧
      ((told (.lock 0 .key) (spanIn .lit)).span 0).state ≠ .locked ∧
      ((told (.lock 0 .command) (spanIn .locked)).span 0).state = .locked ∧ 0#8 = BitVec.ofNat 8 (0 : Degree).val := by
  decide

def reexamined (st : SpanState) (v : BlockerView) (o : Ordinal) : State :=
  withOrdinal o (told (.reexamine 0) { spanIn st with view := v })

theorem witness_ClearsAndReexaminationsAtTheSpanController :
    (reexamined .dark .empty 0).transit.toSpan = .reexamine 0 :: [] ∧
      ((reexamined .dark .empty 0).span 0).view = .empty ∧ (reexamined .dark .empty 0).blocked 0 = true ∧
      ((reexamined .dark .notEmpty 1).span 0).view = .notEmpty ∧ (reexamined .dark .notEmpty 1).blocked 0 = false ∧
      ((reexamined .await .empty 0).span 0).state = .await ∧ (reexamined .await .empty 0).blocked 0 = true ∧
      ((reexamined .lit .empty 1).span 0).state = .lit ∧
      (told (.clear (degreeKey .darkIn 0) 1) (spanIn .probe)).transit.toSpan = .clear (degreeKey .darkIn 0) 1 :: [] ∧
      (told (.clear shutKey 0) (spanIn .probe)).transit.toSpan = .clear shutKey 0 :: [] ∧ shutKey.kind ≠ .darkIn ∧
      shutKey.kind ≠ .farShut := by decide

theorem witness_SettleAndIntervalExpiries :
    (spanIn .dark).settle = some 0 ∧ (spanIn .dark).state = .dark ∧ (spanIn .held).settle ≠ some 0 ∧
      (spanIn .held).interval ≠ some 0 ∧ (spanIn .dark).interval = some 0 ∧ (spanIn .await).interval = some 0 ∧
      (spanIn .await).state = .await ∧ ((withSpan 0 (spanIn .await)).limits 0).autoRestart = true ∧
      ({ spanIn .await with role := .leading } : Span).role = .leading ∧ (spanIn .await).role = .unknown := by decide

theorem witness_ProbeRequestAndRampTimersExpire :
    (spanIn .probe).probeTimer = some 0 ∧ (spanIn .probe).state = .probe ∧ (spanIn .probe).origin = some .automatic ∧
      ({ spanIn .probe with origin := some .manualFromHeld } : Span).origin = some .manualFromHeld ∧
      ({ spanIn .probe with origin := some .manualFromAwait } : Span).origin = some .manualFromAwait ∧
      min 15 ((spanIn .probe).failed + 1) < (spanIn .probe).config.probeLimit ∧
      (spanIn .probe).config.probeLimit ≤ min 15 (({ spanIn .probe with failed := 4 } : Span).failed + 1) ∧
      (spanIn .ramp).rampTimer = some 0 ∧ (spanIn .ramp).state = .ramp ∧
      (spanIn .ramp).config.rampStep < (spanIn .ramp).remaining ∧
      ({ spanIn .ramp with remaining := 100 } : Span).remaining ≤ (spanIn .ramp).config.rampStep ∧
      (spanIn .await).request ≠ some 0 ∧ ({ spanIn .await with request := some 0 } : Span).request = some 0 := by decide

/-- An accepted word of a far end with ordinal 20, handed to span D0. -/
def heard (own : Ordinal) (flags : BitVec 5) (r : Span) : State :=
  { withOrdinal own ((withSpan 0 r).setLine 0 { defaultLine with far := some (far 20 flags) }) with
    transit := { emptyTransit with fromLine := [(0, .farWord (far 20 flags))] } }

theorem witness_AFarWordIsTaken :
    oldest (heard 20 0b00100#5 (spanIn .await)).transit.fromLine 0 = some (.farWord (far 20 0b00100#5)) ∧
      ((heard 20 0b00100#5 (spanIn .await)).line 0).far = some (far 20 0b00100#5) ∧
      ((heard 20 0b00100#5 (spanIn .await)).span 0).state = .await ∧ (far 20 0b00100#5).probing = true ∧
      (spanIn .await).seenDark = false ∧ (far 20 0b00010#5).probeReq = true ∧ (far 20 0b00010#5).probing = false ∧
      ((heard 19 0b00010#5 (spanIn .await)).limits 0).autoRestart = true ∧ (spanIn .await).honoured = false ∧
      (State.reset.line 0).far = none ∧ (heard 20 0 (spanIn .lit)).words.own = (far 20 0).ordinal ∧
      (heard 19 0 (spanIn .lit)).words.own < (far 20 0).ordinal ∧
      (far 20 0).ordinal < (heard 21 0 (spanIn .lit)).words.own := by decide

/-- R127: the role is by the ordinal of the word handed on, not by that of a newer one kept since. -/
theorem test_role_by_this_word :
    after (exec (.farWordAtSpanController 0) ((heard 19 0 (spanIn .lit)).setLine 0
      { defaultLine with far := some (far 3 0) })) (fun t => (t.span 0).role == .leading) = true := by decide

theorem witness_AFarWordIsTaken_clash : (heard 20 0b00100#5 (spanIn .await)).RoleClash 0 :=
  ⟨far 20 0b00100#5, by decide, by decide⟩

theorem witness_AFarWordIsTaken_noClash : ¬(heard 19 0b00100#5 (spanIn .await)).RoleClash 0 := by
  rintro ⟨w, hw, he⟩
  have : some (far 20 0b00100#5) = some w := hw
  cases this
  exact absurd he (by decide)

theorem witness_AFarWordIsTaken_ordinal : ∀ b ∈ [true, false],
    oldest (withTransit { emptyTransit with fromLine := [(0, .ordinal b)] }).transit.fromLine 0 = some (.ordinal b) := by
  decide

def claimed (r : Span) (n : Word32) : State :=
  withClaim 1 [{ degree := 0, changes := n, touch := 0 }] (withOrdinal 9 (withSpan 0 r))

theorem witness_SpanCommitsAreTaken_names : NamesDegrees 1 [0] 1 ∧ NamesDegrees 2 [1, 0] 3 := by
  simp only [← degrees?_eq_some]
  decide

theorem witness_SpanCommitsAreTaken :
    State.reset.claim.standing = none ∧
      (claimed (spanIn .held) 0).claim.standing =
        some { degrees := 1, recorded := [{ degree := 0, changes := 0, touch := 0 }], life := 10000 } ∧
      (1 : DegSet) ≠ 3 ∧ DegSet.toList 1 = [0] ∧
      ((claimed (spanIn .held) 0).span 0).changes = 0 ∧ ((claimed (spanIn .held) 1).span 0).changes ≠ 1 ∧
      ((claimed (spanIn .held) 0).span 0).state = .held ∧ ((claimed (spanIn .lit) 0).span 0).state ≠ .held ∧
      ((claimed (spanIn .locked) 0).span 0).state = .locked ∧
      (∀ r ∈ (claimed (spanIn .locked) 0).cond.active, r.key.kind ≠ .keyOpen) ∧
      (claimed (spanIn .await) 0).blocked 0 = false ∧ ((claimed (spanIn .await) 0).span 0).state = .await ∧
      turned.kind = .keyOpen ∧ turned.degree = none ∧
      ((claimed (spanIn .locked) 0).setActive [fullRecord turned false none]).cond.active =
        [fullRecord turned false none] := by decide

/-! ### Witnesses: lines, conditions, configuration -/

/-- Five bytes of a word, and the sixth that completes it: ordinal 20 on D0, LIT, no flag. -/
def fiveBytes : List Byte := spanWordHead 20 0 0 0

def lastByte : Byte := crc8 (fiveBytes.drop 1)

set_option maxRecDepth 10000 in
theorem witness_BytesArriveOnASupervisoryLine :
    defaultLine.receiving = none ∧ fiveBytes.length = 5 ∧ ([0xC3] : List Byte).length < 5 ∧
      farWord? (fiveBytes ++ [lastByte]) = some (far 20 0) ∧ farWord? (fiveBytes ++ [lastByte + 1]) = none ∧
      defaultLine.expected = 0 ∧ ({ defaultLine with expected := 21 } : Line).expected ≠ (far 20 0).ordinal ∧
      ({ defaultLine with receiving := some fiveBytes } : Line).receiving = some fiveBytes ∧ defaultLine.lost = false ∧
      ({ defaultLine with lost := true, recovery := 1 } : Line).recovery + 1 < 3 ∧
      3 ≤ ({ defaultLine with lost := true, recovery := 2 } : Line).recovery + 1 := by decide

theorem witness_RaisesAndClearsAtTheConditionUnit_line : ∀ b ∈ [true, false],
    ((withLine { defaultLine with timer := none }).line 0).timer ≠ some 0 ∧ (State.reset.line 0).timer ≠ some 0 ∧
      ((withLine { defaultLine with timer := some 0, lost := b }).line 0).timer = some 0 ∧
      ((withLine { defaultLine with timer := some 0, lost := b }).line 0).lost = b := by decide

theorem witness_RaisesAndClearsAtTheConditionUnit :
    State.reset.record? shutKey = none ∧
      (∀ p ∈ [true, false], ∀ c ∈ [none, some ClearCause.normal],
        (withActive [fullRecord shutKey p c]).record? shutKey = some (fullRecord shutKey p c)) ∧
      (∀ n, shutKey.detail = some (.contact n) → (State.reset.contact n).waiting = none) ∧
      turned.detail = some (.contact 0) ∧ ((waitingFor .low).contact 0).waiting = some opened := by decide

theorem witness_ConfigurationIsStored :
    15#8 = BitVec.ofNat 8 (15 : ChannelNo).val ∧ 3#8 = BitVec.ofNat 8 (3 : Degree).val ∧
      1#8 = BitVec.ofNat 8 (1 : ProfileNo).val ∧ 1#8 = (if true then 1 else 0) ∧ 15#8 = (0b1111#4).setWidth 8 ∧
      (255#16).toNat ≤ 255 ∧ -5000 ≤ ((-5000 : BitVec 16)).toInt ∧ ([1, 2, 3, 4] : List Half)[(3 : Degree).val]? = some 4 ∧
      (1 : ProfileNo) ≠ State.reset.store.active ∧ (0 : ProfileNo) = State.reset.store.active := by decide

/-! ### Witnesses: claims, captures, the host link -/

/-- The claim on D0 with events on their way to the claim unit. -/
def telling (l : List ClaimEvent) : State :=
  { claimed (spanIn .held) 0 with transit := { emptyTransit with toClaim := l } }

theorem witness_ClaimsStandAndEnd_names : NamesDegrees 2 [3, 0] 9 := (degrees?_eq_some ..).mp (by decide)

/-- A notice in front, a notice behind another, a notice behind a break, a break behind a notice and another break. -/
theorem witness_ClaimsStandAndEnd :
    (∀ x ∈ [Notice.spanChange 0, .condition (some 3), .condition none],
        (telling [.notice x]).transit.toClaim = [] ++ .notice x :: []) ∧
      (telling [.notice (.spanChange 1), .notice (.spanChange 0)]).transit.toClaim =
        [.notice (.spanChange 1)] ++ .notice (.spanChange 0) :: [] ∧
      Notice.spanChange 1 ≠ .spanChange 0 ∧
      (telling [.breakBy .profile, .notice (.spanChange 0)]).transit.toClaim =
        [.breakBy .profile] ++ .notice (.spanChange 0) :: [] ∧
      (∀ x ∈ [BreakCause.profile, .resync, .softReset],
        (telling [.notice (.spanChange 0), .breakBy x]).transit.toClaim =
          [.notice (.spanChange 0)] ++ .breakBy x :: []) ∧
      ClaimEvent.breakBy .profile ∉ [ClaimEvent.breakBy .resync] ∧ State.reset.claim.standing = none ∧
      (claimed (spanIn .held) 0).claim.standing =
        some { degrees := 1, recorded := [{ degree := 0, changes := 0, touch := 0 }], life := 10000 } := by decide

/-- R148: the notice of a state change that a switch has caused finds the claim ABSENT. -/
theorem test_notice_waits_for_break :
    exec (.claimNotice (.spanChange 0)) (telling [.breakBy .profile, .notice (.spanChange 0)]) =
        .next (telling [.breakBy .profile, .notice (.spanChange 0)]) ∧
      after (exec (.claimBreak .profile) (telling [.breakBy .profile, .notice (.spanChange 0)])) (fun t =>
        t.claim == { standing := none, lastEnd := .profile } && t.transit.toClaim == [.notice (.spanChange 0)]) = true :=
  ⟨rfl, by decide⟩

/-- R149: the expiry of a claim that another has replaced does not end the other. -/
theorem test_replaced_claim_outlives_expiry :
    after (exec .claimLifeExpiry (claimed (spanIn .held) 0)) (fun t => t.claim.standing.isSome) = true ∧
      after (exec .claimLifeExpiry ((claimed (spanIn .held) 0).setClaim
        { standing := some { degrees := 1, recorded := [], life := 0 }, lastEnd := .reset }))
        (fun t => t.claim == { standing := none, lastEnd := .expired }) = true := by decide

def taken (l : List Sample) : Trace := { degree := 0, key := shutKey, at_ := 0, pre := [], post := l }

def noSample : Sample := { pIn := -6000, pOut := -6000, dark := false, refl := false }

theorem witness_CapturesAreFilledAndReleased :
    oldest (withTransit { emptyTransit with samples := [(0, noSample)] }).transit.samples 0 = some noSample ∧
      oldest (withTransit { emptyTransit with triggers := [(0, shutKey)] }).transit.triggers 0 = some shutKey ∧
      (∀ n ∈ [0, 62, 63], look (put defaultCapture.buffers 0 (.filling (taken (List.replicate n noSample)))) 0 =
        .filling (taken (List.replicate n noSample))) ∧
      look defaultCapture.buffers 0 = .empty ∧ defaultCapture.pointer = 0 ∧
      (∀ b, look (Vector.replicate 2 (Buffer.complete (taken []))) b ≠ .empty) ∧
      (∀ b, look (Vector.replicate 2 (Buffer.filling (taken (List.replicate 63 noSample)))) b =
        .filling (taken (List.replicate 63 noSample))) ∧ defaultCapture.latest = 0 ∧
      look (put defaultCapture.buffers 1 (.complete (taken []))) 1 = .complete (taken []) ∧
      1#8 = BitVec.ofNat 8 (1 : BufferNo).val := by decide

/-- The report of a change of source S0's enable line that a span state change causes, and the SPAN report of D0. -/
def sourceReport : HandedReport := { report := .source 0 none 0 0, afterSpan := true }

def spanReport : HandedReport := { report := .span 0 .lit .dark .cut 0, afterSpan := false }

/-- A SOURCE report behind the SPAN report of its change, before it, and alone; a SPAN report behind another category's. -/
theorem witness_ReportsAreQueuedAndRead_next :
    (withTransit { emptyTransit with reports := [spanReport, sourceReport] }).transit.reports =
        [spanReport] ++ sourceReport :: [] ∧
      sourceReport.report.category = .source ∧ (∀ x ∈ [spanReport], x.report.category ≠ .source) ∧
      sourceReport.afterSpan = true ∧ (∃ x ∈ [spanReport], x.report.category = .span) ∧
      (withTransit { emptyTransit with reports := [sourceReport, spanReport] }).transit.reports =
        [sourceReport] ++ spanReport :: [] ∧
      spanReport.afterSpan = false ∧ (∀ x ∈ [sourceReport], x.report.category ≠ .span) ∧
      ∀ x ∈ State.reset.transit.reports, x.report.category ≠ .span := by
  simp only [spanReport, sourceReport]
  decide

/-- R83: the SOURCE report of a span state change is queued after the SPAN report. -/
theorem test_source_report_waits :
    after (exec (.reportEnqueue .source) (withTransit { emptyTransit with reports := [spanReport, sourceReport] })) (fun s =>
      s.link.reports == [.start .powerOn] &&
        after (exec (.reportEnqueue .span) s) (fun t => t.link.reports == [.start .powerOn, spanReport.report] &&
          t.transit.reports == [sourceReport])) = true := by decide

set_option maxRecDepth 10000 in
theorem witness_ReportsAreQueuedAndRead :
    defaultLink.reports.length < 32 ∧ 32 ≤ (List.replicate 32 (Report.start .soft)).length ∧
      15#8 = (0b1111#4).setWidth 8 ∧ Report.start .powerOn ∈ State.reset.link.reports := by decide

set_option maxRecDepth 10000 in
theorem witness_FramesAreReceived :
    State.reset.link.phase = .hunt ∧ ({ defaultLink with phase := .length } : HostLink).phase = .length ∧
      (2 ≤ (2#8).toNat ∧ (122#8).toNat ≤ 122) ∧ ((1#8).toNat < 2 ∧ 122 < (123#8).toNat) ∧
      ({ defaultLink with phase := .body 2 [0x23] } : HostLink).phase = .body 2 [0x23] ∧
      ([0x23] : List Byte).length + 1 < (2#8).toNat + 2 ∧ State.reset.link.gap ≠ some 0 ∧
      ({ defaultLink with gap := some 0 } : HostLink).gap = some 0 ∧
      (request 0x23 (List.replicate 120 0)).payload.length ≤ 120 := by decide

set_option maxRecDepth 10000 in
theorem witness_FramesArePlacedAndReplied :
    (withTransit { emptyTransit with frames := [request 0x21 []] }).transit.frames = request 0x21 [] :: [] ∧
      State.reset.link.hand = none ∧ checkRequest 0x12 [] = .badKind ∧ checkRequest 0x21 [0] = .badLength ∧
      checkRequest 0x21 [] = .request .readReports ∧ checkRequest 0x24 [] = .request .resetPart ∧
      (asked 0x21 []).hand = some { frame := request 0x21 [], answered := false } ∧ (asked 0x21 []).waiting = none ∧
      ({ asked 0x21 [] with waiting := some (request 0x23 []) } : HostLink).waiting = some (request 0x23 []) ∧
      ((List.replicate 7 ({ busy := true, bytes := [] } : Reply)).filter fun r => r.busy).length < 8 ∧
      8 ≤ ((List.replicate 8 ({ busy := true, bytes := [] } : Reply)).filter fun r => r.busy).length ∧
      (withLink (asked 0x24 [])).awaits = some .resetPart := by decide

theorem witness_FramesArePlacedAndReplied_sent : ∀ b ∈ [true, false],
    ({ asked 0x21 [] with replies := [{ busy := b, bytes := [] }] } : HostLink).replies =
      ({ busy := b, bytes := [] } : Reply) :: [] := by decide

/-! ### Witnesses: what every step keeps -/

theorem look_replicate {α : Type} {n : Nat} (x : α) (i : Fin n) : look (Vector.replicate n x) i = x := by simp [look]

def steadySource : Source :=
  { restricted 1 (some 1) .latch with grant := some 1000, enable := true, setpoint := 1000 }

/-- Every span LIT, every source exposed on D0 and restricted once by an entry, one command waiting. -/
def steady : State :=
  { State.reset with
    ctrl := { spans := Vector.replicate 4 (spanIn .lit) }
    grant := { sources := Vector.replicate 16 steadySource }
    pending := [.getClaim] }

theorem steady_span (d : Degree) : steady.span d = spanIn .lit := look_replicate ..

theorem steady_source (i : SourceNo) : steady.source i = steadySource := look_replicate ..

theorem witness_EveryStepKeepsCollectionsSafe : steady.CollectionsSafe ∧ ∃ t, step steady = .next t := by
  refine ⟨⟨fun i => ?_, fun _ _ _ _ h => absurd h List.not_mem_nil⟩, _, rfl⟩
  rw [steady_source]
  exact ⟨by decide, by decide, by decide, by decide, by decide⟩

theorem witness_EveryStepKeepsPortsSafe : steady.PortsSafe ∧ ∃ t, step steady = .next t := by
  refine ⟨fun i => ?_, _, rfl⟩
  rw [steady_source]
  exact ⟨by decide, by decide, by decide⟩

theorem witness_EveryStepKeepsSpansSafe : steady.SpansSafe ∧ ∃ t, step steady = .next t := by
  refine ⟨fun d => ?_, _, rfl⟩
  rw [steady_span]
  constructor <;> decide

/-- A link in the middle of a frame, with a request in hand and its reply formed. -/
def talking : HostLink :=
  { defaultLink with
    phase := .body 2 [0x21], gap := some 5, hand := some { frame := request 0x21 [], answered := true }
    waiting := some (request 0x23 []), replies := [{ busy := false, bytes := [] }, { busy := true, bytes := [] }] }

theorem witness_EveryStepKeepsTheLinkSafe :
    LinkSafe (withLink talking).link ∧ ∃ t, step (withLink talking) = .next t := by
  refine ⟨⟨by decide, by decide, by decide, fun len kept h => ?_, by decide, by decide, by decide⟩, _, rfl⟩
  have : FramerPhase.body 2 [0x21] = .body len kept := h
  cases this
  decide

/-- A claim on D0 stands, a condition is pending, a line has been lost, a buffer fills. -/
def watched : State :=
  { withClaim 1 [{ degree := 0, changes := 0, touch := 0 }] (withActive [fullRecord shutKey true (some .normal)]) with
    words := { own := 9, lines := Vector.replicate 4 { defaultLine with lost := true, timer := none, recovery := 2 } }
    capture := { defaultCapture with buffers := Vector.replicate 2 (.filling (taken [])) }
    pending := [.getClaim] }

theorem watched_steps : ∃ t, step watched = .next t := ⟨_, rfl⟩

theorem witness_LinesSafe : watched.LinesSafe := by
  intro d
  have : watched.line d = { defaultLine with lost := true, timer := none, recovery := 2 } := look_replicate ..
  rw [this]
  exact ⟨by decide, by decide, by decide, by decide, fun _ h => (nomatch h), fun _ h => (nomatch h)⟩

theorem witness_CaptureSafe : CaptureSafe watched.capture :=
  ⟨fun d => by
      have : look watched.capture.rings d = [] := look_replicate ..
      rw [this]
      exact Nat.zero_le _,
    fun b => by
      have : look watched.capture.buffers b = .filling (taken []) := look_replicate ..
      rw [this]
      exact ⟨by decide, by decide⟩⟩

theorem witness_ConditionsSafe : watched.ConditionsSafe := by
  refine ⟨by decide, fun r h => ?_, fun _ h => absurd h List.not_mem_nil⟩
  rw [List.mem_singleton.mp h]
  exact ⟨by decide, by decide, by decide⟩

theorem witness_ClaimSafe : watched.ClaimSafe := by
  intro c h
  have : some (Standing.mk 1 [{ degree := 0, changes := 0, touch := 0 }] 10000) = some c := h
  cases this
  exact ⟨by decide, by decide, by decide⟩

theorem defaultLimits_safe (b : Bool) : LimitsSafe (defaultLimits b) := by
  cases b <;> constructor <;> constructor <;> decide

theorem witness_RangesSafe : watched.RangesSafe where
  calib c := by
    have : look watched.front.calib c = defaultCalibration := look_replicate ..
    rw [this]; exact ⟨⟨by decide, by decide⟩, by decide, by decide⟩
  readings c := by
    have : look watched.front.last c = noReading := look_replicate ..
    rw [this]; exact ⟨by decide, by decide⟩
  heldOut d v h := by
    have : look watched.front.heldOut d = none := look_replicate ..
    rw [this] at h; cases h
  ratio d := by
    have : look watched.front.ratio d = noRatio := look_replicate ..
    rw [this]; exact ⟨by decide, by decide⟩
  debounce k := by
    have : watched.contact k = defaultContact := look_replicate ..
    rw [this]; exact ⟨by decide, by decide⟩
  setpoints i := by
    have : watched.source i = defaultSource := look_replicate ..
    rw [this]; exact ⟨⟨by decide, by decide⟩, ⟨by decide, by decide⟩, by decide, by decide⟩
  spans d := by
    have : watched.span d = defaultSpan := look_replicate ..
    rw [this]; constructor <;> constructor <;> decide
  profiles n d := by
    have : look (look watched.store.profiles n).limits d = defaultLimits (decide (n = 0)) := by
      revert n d; decide
    rw [this]; exact defaultLimits_safe _

end Sys2Proof.Tests
end

section
/-! SUPPORT. Which configuration and which records each command can write. An aspect names a part of the state that has
an owner (R4, R30, R38, R59, R85, R132, R134, R173) or an invariant of its own; `Keeps w s t` says that the step from
`s` to `t` writes no aspect outside `w`. -/

namespace Sys2Proof.Machine

/-- What SET_CONTACT configures of a contact (R30). -/
def Contact.settings (c : Contact) : ContactUse × Level × Option Degree × Nat :=
  (c.use, c.openLevel, c.degree, c.debounce)

/-- What SET_SOURCE configures of a source (R59). -/
def Source.settings (x : Source) : Exposure × Int × Int × Int := (x.exposure, x.full, x.reduced, x.probe)

/-- The parts of the state whose writers the statements name: the configuration by its owners, and the records by the
invariant that speaks of them. `conditions` is the active condition list with the snapshots on their way to it. -/
inductive Aspect
  | calib | readings | contacts | entries | setpoints | spanConfig | site | lines | profiles | selector | notify
  | conditions | capture | claim
  deriving DecidableEq

/-- An aspect stands in `t` as it stood in `s`. -/
def Aspect.Same (s t : State) : Aspect → Prop
  | .calib => t.front.calib = s.front.calib
  | .readings =>
    (t.front.last, t.front.heldOut, t.front.ratio) = (s.front.last, s.front.heldOut, s.front.ratio)
  | .contacts => (fun k => (t.contact k).settings) = fun k => (s.contact k).settings
  | .entries => t.map.entries = s.map.entries
  | .setpoints => (fun i => (t.source i).settings) = fun i => (s.source i).settings
  | .spanConfig => (fun d => (t.span d).config) = fun d => (s.span d).config
  | .site => (t.words.own, fun d => (t.line d).expected) = (s.words.own, fun d => (s.line d).expected)
  | .lines => t.words.lines = s.words.lines
  | .profiles => t.store.profiles = s.store.profiles
  | .selector => t.store.active = s.store.active
  | .notify => t.link.notify = s.link.notify
  | .conditions => (t.cond.active, t.transit.snapshots) = (s.cond.active, s.transit.snapshots)
  | .capture => t.capture = s.capture
  | .claim => t.claim = s.claim

/-- The step from `s` to `t` writes no aspect outside `w`. -/
structure Keeps (w : List Aspect) (s t : State) : Prop where
  same : ∀ p, p ∉ w → Aspect.Same s t p

theorem Aspect.Same.trans {s t u : State} {p : Aspect} (h : Aspect.Same s t p) (k : Aspect.Same t u p) :
    Aspect.Same s u p := by
  cases p <;> exact Eq.trans k h

theorem Keeps.refl (w : List Aspect) (s : State) : Keeps w s s := ⟨fun p _ => by cases p <;> rfl⟩

theorem Keeps.trans {w : List Aspect} {s t u : State} (h : Keeps w s t) (k : Keeps w t u) : Keeps w s u :=
  ⟨fun p hp => (h.same p hp).trans (k.same p hp)⟩

theorem Keeps.mono {v w : List Aspect} {s t : State} (h : Keeps v s t) (hvw : v ⊆ w) : Keeps w s t :=
  ⟨fun p hp => h.same p fun hv => hp (hvw hv)⟩

/-- A step that writes no aspect, beside one that writes `w`. -/
theorem Keeps.weaken {w : List Aspect} {s t : State} (h : Keeps [] s t) : Keeps w s t := h.mono (List.nil_subset w)

theorem Keeps.foldl {α : Type} {w : List Aspect} {f : State → α → State} (h : ∀ s x, Keeps w s (f s x)) (l : List α)
    (s : State) : Keeps w s (l.foldl f s) := by
  induction l generalizing s with
  | nil => exact .refl w s
  | cons x l ih => exact (h s x).trans (ih (f s x))

/-- A step that writes one aspect. -/
theorem keeps_single {q : Aspect} {s t : State} (h : ∀ p, p ≠ q → Aspect.Same s t p) : Keeps [q] s t :=
  ⟨fun p hp => h p fun e => hp (List.mem_singleton.mpr e)⟩

/-! ### Writes of one record -/

variable (s : State)

theorem State.setSource_keeps (i : SourceNo) (x : Source) (h : x.settings = (s.source i).settings) :
    Keeps [] s (s.setSource i x) := by
  refine ⟨fun p _ => ?_⟩
  cases p
  case setpoints =>
    funext j
    rw [State.source_setSource]
    split
    · next e => rw [h, e]
    · rfl
  all_goals rfl

theorem State.setSpan_keeps (d : Degree) (r : Span) (h : r.config = (s.span d).config) :
    Keeps [] s (s.setSpan d r) := by
  refine ⟨fun p _ => ?_⟩
  cases p
  case spanConfig =>
    funext e
    rw [State.span_setSpan]
    split
    · next e => rw [h, e]
    · rfl
  all_goals rfl

theorem State.setContact_keeps (k : ContactNo) (c : Contact) (h : c.settings = (s.contact k).settings) :
    Keeps [] s (s.setContact k c) := by
  refine ⟨fun p _ => ?_⟩
  cases p
  case contacts =>
    funext n
    rw [State.contact_setContact]
    split
    · next e => rw [h, e]
    · rfl
  all_goals rfl

theorem State.setLine_keeps (d : Degree) (r : Line) (h : r.expected = (s.line d).expected) :
    Keeps [.lines] s (s.setLine d r) := by
  refine keeps_single fun p hp => ?_
  cases p
  case site =>
    refine congrArg (Prod.mk s.words.own) ?_
    funext e
    rw [State.line_setLine]
    split
    · next e => rw [h, e]
    · rfl
  case lines => exact absurd rfl hp
  all_goals rfl

theorem State.setActive_keeps (l : List CondRecord) : Keeps [.conditions] s (s.setActive l) :=
  keeps_single fun p hp => by cases p <;> first | rfl | exact absurd rfl hp

theorem State.handSnapshot_keeps (e : SnapshotEvent) : Keeps [.conditions] s (s.handSnapshot e) :=
  keeps_single fun p hp => by cases p <;> first | rfl | exact absurd rfl hp

theorem State.setClaim_keeps (c : ClaimUnit) : Keeps [.claim] s (s.setClaim c) :=
  keeps_single fun p hp => by cases p <;> first | rfl | exact absurd rfl hp

theorem State.setCapture_keeps (c : CaptureUnit) : Keeps [.capture] s (s.setCapture c) :=
  keeps_single fun p hp => by cases p <;> first | rfl | exact absurd rfl hp

theorem State.setEntry_keeps (e : EntryNo) (r : Entry) : Keeps [.entries] s (s.setEntry e r) :=
  keeps_single fun p hp => by cases p <;> first | rfl | exact absurd rfl hp

theorem State.setLink_keeps (l : HostLink) (h : l.notify = s.link.notify) : Keeps [] s (s.setLink l) := by
  refine ⟨fun p _ => ?_⟩
  cases p
  case notify => exact h
  all_goals rfl

theorem State.setQueue_keeps (q : List MapItem) : Keeps [] s (s.setQueue q) := ⟨fun p _ => by cases p <;> rfl⟩

theorem State.touch_keeps (d : Option Degree) : Keeps [] s (s.touch d) := ⟨fun p _ => by cases p <;> rfl⟩

theorem State.handReport_keeps (r : Report) (b : Bool) : Keeps [] s (s.handReport r b) :=
  ⟨fun p _ => by cases p <;> rfl⟩

theorem State.handGrant_keeps (e : GrantEvent) : Keeps [] s (s.handGrant e) := ⟨fun p _ => by cases p <;> rfl⟩

theorem State.handSpan_keeps (e : SpanEvent) : Keeps [] s (s.handSpan e) := ⟨fun p _ => by cases p <;> rfl⟩

theorem State.handLine_keeps (d : Degree) (e : LineEvent) : Keeps [] s (s.handLine d e) :=
  ⟨fun p _ => by cases p <;> rfl⟩

theorem State.handNotice_keeps (n : Notice) : Keeps [] s (s.handNotice n) := ⟨fun p _ => by cases p <;> rfl⟩

/-- Writing a source's whole record. -/
theorem State.setSource_writes (i : SourceNo) (x : Source) : Keeps [.setpoints] s (s.setSource i x) :=
  keeps_single fun p hp => by cases p <;> first | rfl | exact absurd rfl hp

/-- Writing a span's whole record. -/
theorem State.setSpan_writes (d : Degree) (r : Span) : Keeps [.spanConfig] s (s.setSpan d r) :=
  keeps_single fun p hp => by cases p <;> first | rfl | exact absurd rfl hp

/-- Writing a contact's whole record. -/
theorem State.setContact_writes (k : ContactNo) (c : Contact) : Keeps [.contacts] s (s.setContact k c) :=
  keeps_single fun p hp => by cases p <;> first | rfl | exact absurd rfl hp

/-! ### The grant unit -/

theorem Source.regranted_settings (spans : Vector Span 4) (x : Source) :
    (x.regranted spans).settings = x.settings := by
  unfold Source.regranted
  split <;> rfl

theorem Source.takeOrder_settings (c : Ceiling) (p : Persistence) (o : Origin) (x : Source) :
    (x.takeOrder c p o).settings = x.settings := by
  unfold Source.takeOrder
  split
  · rfl
  · split <;> rfl

theorem Source.takeClear_settings (k : Key) (x : Source) : (x.takeClear k).settings = x.settings := by
  unfold Source.takeClear
  dsimp only
  split <;> split <;> rfl

theorem Source.takeRemoval_settings (o : Origin) (x : Source) : (x.takeRemoval o).settings = x.settings := by
  unfold Source.takeRemoval
  dsimp only
  split <;> rfl

theorem State.recompute_keeps (a : Bool) (s : State) (i : SourceNo) : Keeps [] s (s.recompute a i) := by
  rw [State.recompute_eq]
  refine (State.setSource_keeps s _ _ (Source.regranted_settings s.ctrl.spans (s.source i))).trans ?_
  exact ⟨fun p _ => by cases p <;> rfl⟩

theorem State.recomputeAll_keeps (a : Bool) (s : State) (l : List SourceNo) : Keeps [] s (s.recomputeAll a l) :=
  Keeps.foldl (State.recompute_keeps a) l s

theorem State.updateSource_keeps {f : Source → Source} (hf : ∀ x, (f x).settings = x.settings) (s : State)
    (i : SourceNo) : Keeps [] s (State.updateSource f s i) :=
  (State.setSource_keeps s _ _ (hf _)).trans (State.recompute_keeps false _ i)

/-! ### The span controller -/

theorem Span.enter_config (r : Span) (n : SpanState) (c : SpanCause) : (r.enter n c).config = r.config := rfl

theorem State.handForcedIf_keeps (d : Degree) (b : Bool) : Keeps [] s (s.handForcedIf d b) := by
  unfold State.handForcedIf
  split
  · exact ⟨fun p _ => by cases p <;> rfl⟩
  · exact .refl _ s

theorem State.handCutTrigger_keeps (d : Degree) (o n : SpanState) (k : Option Key) :
    Keeps [] s (s.handCutTrigger d o n k) := by
  unfold State.handCutTrigger
  split
  · split
    · exact ⟨fun p _ => by cases p <;> rfl⟩
    · exact .refl _ s
  · exact .refl _ s

theorem State.moveSpan_keeps (d : Degree) (n : SpanState) (c : SpanCause) (f : Span → Span) (k : Option Key)
    (hf : ∀ r, (f r).config = r.config) : Keeps [] s (s.moveSpan d n c f k) := by
  unfold State.moveSpan
  dsimp only
  refine Keeps.trans ?_ (State.handNotice_keeps _ _)
  refine Keeps.trans ?_ (State.handCutTrigger_keeps _ _ _ _ _)
  refine Keeps.trans ?_ (State.handForcedIf_keeps _ _ _)
  refine Keeps.trans ?_ (State.recomputeAll_keeps _ _ _)
  exact (State.setSpan_keeps s _ _ ((hf _).trans (Span.enter_config ..))).trans (State.handReport_keeps _ _ _)

theorem State.enterDark_keeps (d : Degree) (c : SpanCause) (f : Span → Span) (k : Option Key)
    (hf : ∀ r, (f r).config = r.config) : Keeps [] s (s.enterDark d c f k) :=
  State.moveSpan_keeps s d _ c _ k fun _ => hf _

theorem State.enterProbe_keeps (d : Degree) (c : SpanCause) (f : Span → Span)
    (hf : ∀ r, (f r).config = r.config) : Keeps [] s (s.enterProbe d c f) :=
  State.moveSpan_keeps s d _ c _ none fun _ => hf _

theorem State.settleInAwait_keeps (d : Degree) : Keeps [] s (s.settleInAwait d) := by
  unfold State.settleInAwait
  split
  · exact State.enterDark_keeps s d _ _ _ fun _ => by rfl
  · split
    · exact State.setSpan_keeps s _ _ (by rfl)
    · exact .refl _ s

theorem State.enterAwait_keeps (d : Degree) (c : SpanCause) (f : Span → Span)
    (hf : ∀ r, (f r).config = r.config) : Keeps [] s (s.enterAwait d c f) := by
  unfold State.enterAwait
  split
  · exact State.moveSpan_keeps s d _ _ f none hf
  · refine (State.moveSpan_keeps s d _ c _ none fun r => (hf _).trans ?_).trans (State.settleInAwait_keeps _ d)
    split <;> rfl

theorem Span.see_config (r : Span) (d : Degree) (k : Key) (b : Bool) : (r.see d k b).config = r.config := by
  unfold Span.see
  split_ifs <;> rfl

theorem State.takeCut_keeps (d : Degree) (k : Key) : Keeps [] s (s.takeCut d k) := by
  unfold State.takeCut
  refine (State.setSpan_keeps s _ _ (Span.see_config (s.span d) d k true)).trans ?_
  dsimp only
  split
  · exact State.enterDark_keeps _ d _ _ _ fun _ => by rfl
  · split
    · exact State.moveSpan_keeps _ d _ _ _ _ fun _ => by rfl
    · exact State.enterDark_keeps _ d _ _ _ fun _ => by rfl
  · split
    · exact State.moveSpan_keeps _ d _ _ _ _ fun _ => by rfl
    · exact State.enterDark_keeps _ d _ _ _ fun _ => by rfl
  all_goals exact .refl _ _

theorem State.takeLock_keeps (d : Degree) (c : LockCause) : Keeps [] s (s.takeLock d c) := by
  unfold State.takeLock
  split
  · split
    · exact State.setSpan_keeps s _ _ (by rfl)
    · exact .refl _ s
  · exact State.moveSpan_keeps s d _ _ _ _ fun _ => by rfl

theorem State.reexamine_keeps (s : State) (d : Degree) : Keeps [] s (s.reexamine d) := by
  unfold State.reexamine
  dsimp only
  split
  · exact State.setSpan_keeps s _ _ (by rfl)
  · exact State.setSpan_keeps s _ _ (by rfl)
  · exact State.enterDark_keeps s d _ _ _ fun _ => by rfl
  · exact State.setSpan_keeps s _ _ (by rfl)

theorem State.testConfirmation_keeps (d : Degree) (far : Option FarWord) : Keeps [] s (s.testConfirmation d far) := by
  unfold State.testConfirmation
  split
  · split <;> exact State.moveSpan_keeps s d _ _ _ _ fun _ => by rfl
  · exact .refl _ s

theorem State.setRole_keeps (d : Degree) (far : Option FarWord) : Keeps [] s (s.setRole d far) := by
  unfold State.setRole
  refine Keeps.trans (t := s.setSpan d { s.span d with role := roleAgainst s.words.own far })
    (State.setSpan_keeps s _ _ (by rfl)) ?_
  dsimp only
  split
  · exact State.moveSpan_keeps _ d _ _ _ _ fun _ => by rfl
  · exact .refl _ _

theorem State.takeSpanClear_keeps (k : Key) (w : DegSet) : Keeps [] s (s.takeSpanClear k w) := by
  unfold State.takeSpanClear
  have hseen : Keeps [] s (match k.degree with
      | some d => s.setSpan d ((s.span d).see d k false)
      | none => s) := by
    split
    · exact State.setSpan_keeps s _ _ (Span.see_config ..)
    · exact .refl _ s
  have hexam := hseen.trans (Keeps.foldl State.reexamine_keeps (DegSet.toList w) _)
  dsimp only
  split
  · exact hexam.trans (State.testConfirmation_keeps _ _ _)
  · exact hexam

theorem State.withdrawOn_keeps (d : Degree) (w : FarWord) : Keeps [] s (s.withdrawOn d w) := by
  unfold State.withdrawOn
  split
  · exact State.setSpan_keeps s _ _ (by rfl)
  · exact .refl _ s

theorem State.replyProbe_keeps (d : Degree) (w : FarWord) : Keeps [] s (s.replyProbe d w) := by
  unfold State.replyProbe
  split
  · exact State.enterProbe_keeps s d _ _ fun _ => by rfl
  · exact .refl _ s

theorem State.farRequest_keeps (d : Degree) (w : FarWord) : Keeps [] s (s.farRequest d w) := by
  unfold State.farRequest
  split
  · exact State.enterProbe_keeps s d _ _ fun _ => by rfl
  · exact .refl _ s

theorem State.takeFarWord_keeps (d : Degree) (w : FarWord) : Keeps [] s (s.takeFarWord d w) :=
  ((((State.setRole_keeps s d _).trans (State.withdrawOn_keeps _ d w)).trans (State.replyProbe_keeps _ d w)).trans
    (State.farRequest_keeps _ d w)).trans (State.testConfirmation_keeps _ d _)

theorem State.takeOrdinalChange_keeps (d : Degree) (b : Bool) : Keeps [] s (s.takeOrdinalChange d b) := by
  unfold State.takeOrdinalChange
  refine Keeps.trans ?_ (State.setRole_keeps _ d _)
  split
  · exact State.reexamine_keeps s d
  · exact .refl _ s

theorem State.stepRamp_keeps (d : Degree) : Keeps [] s (s.stepRamp d) := by
  unfold State.stepRamp
  dsimp only
  split
  · exact State.moveSpan_keeps s d _ _ _ _ fun _ => by rfl
  · exact Keeps.trans (State.setSpan_keeps s _ _ (by rfl)) (State.recomputeAll_keeps ..)

theorem State.failProbe_keeps (d : Degree) : Keeps [] s (s.failProbe d) := by
  unfold State.failProbe
  dsimp only
  split
  · exact State.moveSpan_keeps s d _ _ _ _ fun _ => by rfl
  · exact State.enterAwait_keeps s d _ _ fun _ => by rfl

theorem State.intervalInAwait_keeps (d : Degree) : Keeps [] s (s.intervalInAwait d) := by
  unfold State.intervalInAwait
  dsimp only
  split
  · split
    · exact State.enterProbe_keeps s d _ _ fun _ => by rfl
    · exact State.setSpan_keeps s _ _ (by rfl)
    · exact State.setSpan_keeps s _ _ (by rfl)
  · exact State.setSpan_keeps s _ _ (by rfl)

/-! ### The condition unit -/

theorem State.updateRecord_keeps (k : Key) (f : CondRecord → CondRecord) :
    Keeps [.conditions] s (s.updateRecord k f) := State.setActive_keeps s _

theorem State.raise_keeps (k : Key) : Keeps [.conditions] s (s.raise k) := by
  unfold State.raise
  split
  · split
    · exact State.updateRecord_keeps s k _
    · exact .refl _ s
  · exact (((State.setActive_keeps s _).trans (State.setQueue_keeps _ _).weaken).trans
      (State.touch_keeps _ _).weaken).trans (State.handNotice_keeps _ _).weaken

theorem State.takeWaitingRaise_keeps (k : Key) : Keeps [.conditions] s (s.takeWaitingRaise k) := by
  unfold State.takeWaitingRaise
  split
  · split
    · exact (State.setContact_keeps s _ _ (by rfl)).weaken.trans (State.raise_keeps _ _)
    · exact .refl _ s
  all_goals exact .refl _ s

theorem State.takeClear_keeps (r : CondRecord) (c : ClearCause) : Keeps [.conditions] s (s.takeClear r c) := by
  unfold State.takeClear
  refine Keeps.trans ?_ (State.takeWaitingRaise_keeps _ _)
  exact (((((State.setActive_keeps s _).trans (State.handReport_keeps _ _ _).weaken).trans
    (State.handGrant_keeps _ _).weaken).trans (State.handSpan_keeps _ _).weaken).trans
      (State.touch_keeps _ _).weaken).trans (State.handNotice_keeps _ _).weaken

theorem State.clearDue_keeps (k : Key) (c : ClearCause) : Keeps [.conditions] s (s.clearDue k c) := by
  unfold State.clearDue
  split
  · exact .refl _ s
  · split
    · exact State.updateRecord_keeps s k _
    · exact State.takeClear_keeps s _ c

theorem State.decided_keeps (k : Key) (o : Option Bool) : Keeps [.conditions] s (s.decided k o) := by
  unfold State.decided
  split
  · exact State.raise_keeps s k
  · exact State.clearDue_keeps s k _
  · exact .refl _ s

theorem State.feedDark_keeps (d : Degree) (v : Int) : Keeps [.conditions] s (s.feedDark d v) := by
  unfold State.feedDark
  exact Keeps.trans ⟨fun p _ => by cases p <;> rfl⟩ (State.decided_keeps _ _ _)

theorem State.feedReflect_keeps (d : Degree) (x : Ratio) : Keeps [.conditions] s (s.feedReflect d x) := by
  unfold State.feedReflect
  exact Keeps.trans ⟨fun p _ => by cases p <;> rfl⟩ (State.decided_keeps _ _ _)

theorem State.feedPump_keeps (d : Degree) (v : Int) : Keeps [.conditions] s (s.feedPump d v) := by
  unfold State.feedPump
  exact Keeps.trans ⟨fun p _ => by cases p <;> rfl⟩ (State.decided_keeps _ _ _)

theorem State.feedFault_keeps (c : ChannelNo) (b : Bool) : Keeps [.conditions] s (s.feedFault c b) := by
  unfold State.feedFault
  exact Keeps.trans ⟨fun p _ => by cases p <;> rfl⟩ (State.decided_keeps _ _ _)

theorem State.contactRaise_keeps (n : ContactNo) (k : Key) : Keeps [.conditions] s (s.contactRaise n k) := by
  unfold State.contactRaise
  split
  · split
    · exact (State.setContact_keeps s _ _ (by rfl)).weaken
    · exact State.raise_keeps s k
  · exact State.raise_keeps s k

theorem State.contactClear_keeps (n : ContactNo) (c : ClearCause) : Keeps [.conditions] s (s.contactClear n c) := by
  unfold State.contactClear
  split
  · exact (State.setContact_keeps s _ _ (by rfl)).weaken
  · split
    · split
      · exact .refl _ s
      · exact State.clearDue_keeps s _ c
    · exact .refl _ s

theorem State.handReexaminations_keeps (m : DegSet) : Keeps [] s (s.handReexaminations m) :=
  Keeps.foldl (fun s _ => State.handSpan_keeps s _) _ s

theorem State.writeSnapshot_keeps (k : Key) (m : List EntryNo) (w : DegSet) :
    Keeps [.conditions] s (s.writeSnapshot k m w) := by
  unfold State.writeSnapshot
  split
  · exact .refl _ s
  · next r _ =>
    have hw := ((State.updateRecord_keeps s k fun _ =>
      { r with pending := false, clearDue := none, matched := m, withheld := w }).trans
        (State.handReport_keeps _ (.raised k r.raisedAt m.length (primaryOf m)) false).weaken).trans
          (State.handReexaminations_keeps _ w).weaken
    dsimp only
    split
    · exact hw.trans (State.takeClear_keeps _ _ _)
    · exact hw

theorem State.rewriteSnapshot_keeps (k : Key) (m : List EntryNo) (w : DegSet) :
    Keeps [.conditions] s (s.rewriteSnapshot k m w) := by
  unfold State.rewriteSnapshot
  split
  · exact .refl _ s
  · split
    · exact .refl _ s
    · exact (State.updateRecord_keeps s k _).trans (State.handReexaminations_keeps _ _).weaken

theorem State.forceClear_keeps (d : Degree) : Keeps [.conditions] s (s.forceClear d) := by
  unfold State.forceClear
  dsimp only
  split
  · exact Keeps.trans ⟨fun p _ => by cases p <;> rfl⟩ (State.clearDue_keeps _ _ _)
  · exact ⟨fun p _ => by cases p <;> rfl⟩

theorem State.acceptContact_keeps (k : ContactNo) : Keeps [.conditions] s (s.acceptContact k) := by
  unfold State.acceptContact
  refine (State.setContact_keeps s k
    { s.contact k with timer := none, accepted := (s.contact k).readsOpen } rfl).weaken.trans ?_
  dsimp only
  split
  · exact State.contactRaise_keeps _ k _
  · exact .refl _ _
  · exact State.contactClear_keeps _ k _

theorem Contact.changeLevel_settings (c : Contact) : c.changeLevel.settings = c.settings := by
  unfold Contact.changeLevel
  dsimp only
  split_ifs <;> rfl

/-! ### The span word unit -/

theorem State.lineDecides_keeps (k : Key) (a b : Bool) : Keeps [.conditions] s (s.lineDecides k a b) := by
  unfold State.lineDecides
  split
  · exact State.raise_keeps s k
  · split
    · exact State.clearDue_keeps s k _
    · exact .refl _ s

/-- A raise or clear of a line condition, in an event that may write the line too. -/
theorem State.lineDecides_keeps_lines (k : Key) (a b : Bool) :
    Keeps [.lines, .conditions] s (s.lineDecides k a b) :=
  (State.lineDecides_keeps s k a b).mono (by decide)

theorem State.setLine_keeps_conditions (d : Degree) (r : Line)
    (h : r.expected = (s.line d).expected) : Keeps [.lines, .conditions] s (s.setLine d r) :=
  (State.setLine_keeps s d r h).mono (by decide)

theorem State.acceptWord_keeps (d : Degree) (w : FarWord) : Keeps [.lines, .conditions] s (s.acceptWord d w) := by
  unfold State.acceptWord
  refine Keeps.trans ?_ (State.handLine_keeps _ _ _).weaken
  refine Keeps.trans ?_ (State.lineDecides_keeps_lines _ _ _ _)
  refine Keeps.trans ?_ (State.lineDecides_keeps_lines _ _ _ _)
  refine Keeps.trans ?_ (State.lineDecides_keeps_lines _ _ _ _)
  exact State.setLine_keeps_conditions s _ _ (by rfl)

theorem State.recoverWord_keeps (d : Degree) (w : FarWord) : Keeps [.lines, .conditions] s (s.recoverWord d w) := by
  unfold State.recoverWord
  dsimp only
  split
  · exact State.setLine_keeps_conditions s _ _ (by rfl)
  · refine Keeps.trans ?_ (State.acceptWord_keeps _ d w)
    exact (State.setLine_keeps_conditions s _ _ (by rfl)).trans ((State.clearDue_keeps _ _ _).mono (by decide))

theorem State.mismatchWord_keeps (d : Degree) : Keeps [.lines, .conditions] s (s.mismatchWord d) := by
  unfold State.mismatchWord
  dsimp only
  split
  · exact State.setLine_keeps_conditions s _ _ (by rfl)
  · exact (State.setLine_keeps_conditions s _ _ (by rfl)).trans (State.lineDecides_keeps_lines _ _ _ _)

theorem State.matchWord_keeps (d : Degree) (w : FarWord) : Keeps [.lines, .conditions] s (s.matchWord d w) := by
  unfold State.matchWord
  refine Keeps.trans (t := s.setLine d { s.line d with accepted := countTo65535 (s.line d).accepted })
    (State.setLine_keeps_conditions s _ _ (by rfl)) ?_
  dsimp only
  split
  · exact State.recoverWord_keeps _ d w
  · exact State.acceptWord_keeps _ d w

theorem State.takeWord_keeps (d : Degree) (l : List Byte) : Keeps [.lines, .conditions] s (s.takeWord d l) := by
  unfold State.takeWord
  split
  · exact State.setLine_keeps_conditions s _ _ (by rfl)
  · split
    · exact State.mismatchWord_keeps s d
    · exact State.matchWord_keeps s d _

theorem State.receiveByte_keeps (d : Degree) (s : State) (b : Byte) :
    Keeps [.lines, .conditions] s (State.receiveByte d s b) := by
  unfold State.receiveByte
  split
  · split
    · exact State.setLine_keeps_conditions s _ _ (by rfl)
    · exact .refl _ s
  · split
    · exact State.setLine_keeps_conditions s _ _ (by rfl)
    · exact Keeps.trans (State.setLine_keeps_conditions s _ _ (by rfl) : Keeps _ s (s.setReceiving d none))
        (State.takeWord_keeps _ d _)

theorem State.fallIdle_keeps (d : Degree) : Keeps [.lines, .conditions] s (s.fallIdle d) := by
  unfold State.fallIdle
  split
  · exact State.setLine_keeps_conditions s _ _ (by rfl)
  · exact .refl _ s

/-! ### Replies and claims -/

theorem State.replyInHand_keeps (b : List Byte) : Keeps [] s (s.replyInHand b) := by
  unfold State.replyInHand
  split
  · exact State.setLink_keeps s _ (by rfl)
  · exact .refl _ s

theorem State.answer_keeps (i : Instr) (b : List Byte) : Keeps [] s (s.answer i b) := by
  unfold State.answer
  split
  · exact State.replyInHand_keeps s b
  · exact ⟨fun p _ => by cases p <;> rfl⟩

theorem State.endClaim_keeps (c : EndCause) : Keeps [.claim] s (s.endClaim c) := by
  unfold State.endClaim
  split
  · exact State.setClaim_keeps s _
  · exact .refl _ s

theorem State.commit_keeps (m : DegSet) (p : Degree → Reason) {f : State → Degree → State}
    (hf : ∀ s d, Keeps [] s (f s d)) (ok : Byte) : Keeps [.claim] s (s.commit m p f ok).1 := by
  have hend := State.endClaim_keeps s .consumed
  unfold State.commit
  dsimp only
  split
  · exact hend
  · split
    · exact hend.trans (Keeps.foldl hf _ _).weaken
    · exact hend

theorem State.spanCommit_keeps (n : Byte) (l : List Byte) (p : Degree → Reason) {f : State → Degree → State}
    (hf : ∀ s d, Keeps [] s (f s d)) (ok : Byte) : Keeps [.claim] s (s.spanCommit n l p f ok).1 := by
  unfold State.spanCommit
  split
  · exact .refl _ s
  · exact State.commit_keeps s _ p hf ok

end Sys2Proof.Machine
end

section
/-! SUPPORT. The aspects each command writes, said once for all 77 commands. -/

namespace Sys2Proof.Machine

/-- The aspects a command can write: its own configuration for a request that configures, and the records it changes. -/
def aspectsWritten : Instr → List Aspect
  | .powerOnReset =>
    [.calib, .readings, .contacts, .entries, .setpoints, .spanConfig, .site, .lines, .profiles, .selector, .notify,
      .conditions, .capture, .claim]
  | .replySent => [.readings, .lines, .conditions, .capture, .claim]
  | .monitorReading .. => [.readings, .conditions]
  | .spanWordReceived .. | .lineTimerExpiry _ => [.lines, .conditions]
  | .spanWordSend _ => [.lines]
  | .lookup | .snapshotWrite | .forcedClear _ | .debounceExpiry _ | .masterShutAssertion | .clearDelayExpiry
  | .reevaluation | .rewrittenSnapshotWrite => [.conditions]
  | .historySample _ | .captureTrigger _ | .releaseCapture _ => [.capture]
  | .claimNotice _ | .claimBreak _ | .claimLifeExpiry | .releaseLatch _ | .resume .. | .unlock .. | .probeNow ..
  | .claim .. => [.claim]
  | .setChannel .. => [.calib]
  | .setContact .. => [.contacts, .conditions]
  | .putEntry .. | .parkEntry _ | .unparkEntry _ | .freeEntry _ => [.entries]
  | .setSource .. => [.setpoints]
  | .setSpan .. => [.spanConfig]
  | .setSite .. => [.site, .lines]
  | .setProfile .. => [.profiles]
  | .selectProfile _ => [.selector]
  | .setNotify _ => [.notify]
  | _ => []

/-- Every next state that a command answers has a property. -/
def Answers (P : State → Prop) (r : Result) : Prop := ∀ t, r = .next t → P t

theorem Answers.next {P : State → Prop} {t : State} (h : P t) : Answers P (.next t) := fun u hu => by
  cases hu; exact h

variable (s : State)

/-- Taking an event out of transit, but a snapshot, writes no aspect. -/
theorem State.transit_keeps (x : Transit) (h : x.snapshots = s.transit.snapshots) :
    Keeps [] s { s with transit := x } := by
  refine ⟨fun p _ => ?_⟩
  cases p
  case conditions => exact congrArg (Prod.mk s.cond.active) h
  all_goals rfl

/-- Taking a snapshot out of transit. -/
theorem State.snapshots_keeps (l : List SnapshotEvent) :
    Keeps [.conditions] s { s with transit := { s.transit with snapshots := l } } :=
  keeps_single fun p hp => by cases p <;> first | rfl | exact absurd rfl hp

/-- A request writes what its owning block writes: its reply writes no aspect. -/
theorem State.serve_keeps {w : List Aspect} {s : State} {r : State × List Byte} (i : Instr) (h : Keeps w s r.1) :
    Answers (Keeps w s) (.next (State.serve i r)) :=
  .next (h.trans (State.answer_keeps r.1 i r.2).weaken)

theorem refuseIllFormed_keeps {w : List Aspect} {s : State} {r : State × List Byte} (b : Bool) (h : Keeps w s r.1) :
    Keeps w s (refuseIllFormed b s r).1 := by
  unfold refuseIllFormed
  split
  · exact h
  · exact .refl w s

/-! ### Readings, conditions, contacts -/

theorem State.front_keeps (f : FrontEnd) (h : f.calib = s.front.calib) :
    Keeps [.readings, .conditions] s { s with front := f } := by
  refine Keeps.mono (keeps_single (q := .readings) fun p hp => ?_) (by decide)
  cases p
  case calib => exact h
  case readings => exact absurd rfl hp
  all_goals rfl

theorem State.distribute_keeps (c : ChannelNo) (v : Int) : Keeps [.readings, .conditions] s (s.distribute c v) := by
  have hsub : [Aspect.conditions] ⊆ [Aspect.readings, .conditions] := by decide
  unfold State.distribute
  dsimp only
  split
  · exact ((State.feedDark_keeps s _ v).mono hsub).trans ⟨fun p _ => by cases p <;> rfl⟩
  · exact .refl _ s
  · exact (State.front_keeps s _ (by rfl)).trans ((State.feedReflect_keeps _ _ _).mono hsub)
  · exact (State.feedPump_keeps s _ v).mono hsub

theorem execMonitorReading_keeps (c : ChannelNo) (code : BitVec 12) (valid : Bool) :
    Answers (Keeps [.readings, .conditions] s) (execMonitorReading c code valid s) :=
  .next (((State.front_keeps s _ (by rfl)).trans ((State.feedFault_keeps _ c _).mono (by decide))).trans
    (State.distribute_keeps _ c _))

theorem execSnapshotWrite_keeps : Answers (Keeps [.conditions] s) (execSnapshotWrite s) := by
  unfold execSnapshotWrite
  split
  · exact .next ((State.snapshots_keeps s _).trans (State.writeSnapshot_keeps _ _ _ _))
  all_goals exact .next (.refl _ s)

theorem execRewrittenSnapshotWrite_keeps : Answers (Keeps [.conditions] s) (execRewrittenSnapshotWrite s) := by
  unfold execRewrittenSnapshotWrite
  split
  · exact .next ((State.snapshots_keeps s _).trans (State.rewriteSnapshot_keeps _ _ _ _))
  all_goals exact .next (.refl _ s)

theorem execForcedClear_keeps (d : Degree) : Answers (Keeps [.conditions] s) (execForcedClear d s) := by
  unfold execForcedClear
  split
  · exact .next ((State.transit_keeps s _ (by rfl)).weaken.trans (State.forceClear_keeps _ d))
  · exact .next (.refl _ s)

theorem execDebounceExpiry_keeps (k : ContactNo) : Answers (Keeps [.conditions] s) (execDebounceExpiry k s) := by
  unfold execDebounceExpiry
  split
  · exact .next (State.acceptContact_keeps s k)
  · exact .next (.refl _ s)

theorem State.setShut_keeps (m : MasterShut) : Keeps [] s (s.setShut m) := ⟨fun p _ => by cases p <;> rfl⟩

theorem execMasterShutAssertion_keeps : Answers (Keeps [.conditions] s) (execMasterShutAssertion s) := by
  unfold execMasterShutAssertion
  refine .next ?_
  split
  · exact (State.setShut_keeps s _).weaken
  · exact (State.setShut_keeps s _).weaken.trans (State.raise_keeps _ _)

theorem execClearDelayExpiry_keeps : Answers (Keeps [.conditions] s) (execClearDelayExpiry s) := by
  unfold execClearDelayExpiry
  split
  · exact .next ((State.setShut_keeps s _).weaken.trans (State.clearDue_keeps _ _ _))
  · exact .next (.refl _ s)

theorem execCounterZeroing_keeps : Answers (Keeps [] s) (execCounterZeroing s) := by
  unfold execCounterZeroing
  split
  · exact .next (.refl _ s)
  · exact .next ⟨fun p _ => by cases p <;> rfl⟩

theorem State.takeSetContact_keeps (k u l d t : Byte) :
    Keeps [.contacts, .conditions] s (s.takeSetContact k u l d t).1 := by
  unfold State.takeSetContact
  split
  · exact ((State.contactClear_keeps s _ .reconfigured).mono (by decide)).trans
      ((State.setContact_writes _ _ _).mono (by decide))
  · exact .refl _ s

theorem State.takeGetConditions_state (a b : Byte) : (s.takeGetConditions a b).1 = s := by
  unfold State.takeGetConditions
  dsimp only
  split_ifs <;> rfl

/-! ### The hazard map -/

theorem State.handGrantAll_keeps (l : List GrantEvent) : Keeps [] s (s.handGrantAll l) :=
  Keeps.foldl State.handGrant_keeps l s

theorem State.handSpanAll_keeps (l : List SpanEvent) : Keeps [] s (s.handSpanAll l) :=
  Keeps.foldl State.handSpan_keeps l s

theorem State.lookUp_keeps (k : Key) : Keeps [.conditions] s (s.lookUp k) :=
  (((State.handGrantAll_keeps s _).trans (State.handSpanAll_keeps _ _)).trans
    (State.handSpanAll_keeps _ _)).weaken.trans (State.handSnapshot_keeps _ _)

theorem execLookup_keeps : Answers (Keeps [.conditions] s) (execLookup s) := by
  unfold execLookup
  split
  · exact .next ((State.setQueue_keeps s _).weaken.trans (State.lookUp_keeps _ _))
  all_goals exact .next (.refl _ s)

theorem State.reevaluate_keeps : Keeps [.conditions] s s.reevaluate :=
  (((State.handGrantAll_keeps s _).trans (State.handGrantAll_keeps _ _)).trans
    (State.handSpanAll_keeps _ _)).weaken.trans (Keeps.foldl (fun _ _ => State.handSnapshot_keeps _ _) _ _)

theorem execReevaluation_keeps : Answers (Keeps [.conditions] s) (execReevaluation s) := by
  unfold execReevaluation
  split
  · exact .next ((State.setQueue_keeps s _).weaken.trans (State.reevaluate_keeps _))
  all_goals exact .next (.refl _ s)

theorem State.takePutEntry_keeps (p g : Byte) (k : RawKey) (c n : Byte) (as : List RawAction) (x w : Byte) :
    Keeps [.entries] s (s.takePutEntry p g k c n as x w).1 := by
  unfold State.takePutEntry
  split
  · exact State.setEntry_keeps s _ _
  · split
    · exact State.setEntry_keeps s _ _
    · exact .refl _ s
  · exact .refl _ s

theorem State.takeParkEntry_keeps (i : Byte) : Keeps [.entries] s (s.takeParkEntry i).1 := by
  unfold State.takeParkEntry
  split
  · exact .refl _ s
  · split
    · exact .refl _ s
    · exact State.setEntry_keeps s _ _
    · exact .refl _ s

theorem State.takeUnparkEntry_keeps (i : Byte) : Keeps [.entries] s (s.takeUnparkEntry i).1 := by
  unfold State.takeUnparkEntry
  split
  · exact .refl _ s
  · split
    · exact .refl _ s
    · exact .refl _ s
    · exact State.setEntry_keeps s _ _

theorem State.takeFreeEntry_keeps (i : Byte) : Keeps [.entries] s (s.takeFreeEntry i).1 := by
  unfold State.takeFreeEntry
  split
  · exact .refl _ s
  · exact State.setEntry_keeps s _ _

theorem State.takeGetEntry_state (i : Byte) : (s.takeGetEntry i).1 = s := by
  unfold State.takeGetEntry
  split <;> rfl

theorem State.takeTestKey_state (k : RawKey) (a b : Byte) : (s.takeTestKey k a b).1 = s := by
  unfold State.takeTestKey
  split
  · rfl
  · dsimp only
    split_ifs <;> rfl

/-! ### The grant unit -/

theorem execRestrictionOrder_keeps : Answers (Keeps [] s) (execRestrictionOrder s) := by
  unfold execRestrictionOrder
  split
  · exact .next ((State.transit_keeps s _ (by rfl)).trans
      (Keeps.foldl (State.updateSource_keeps (Source.takeOrder_settings _ _ _)) _ _))
  all_goals exact .next (.refl _ s)

theorem execClearAtGrantUnit_keeps : Answers (Keeps [] s) (execClearAtGrantUnit s) := by
  unfold execClearAtGrantUnit
  split
  · exact .next ((State.transit_keeps s _ (by rfl)).trans
      (Keeps.foldl (State.updateSource_keeps (Source.takeClear_settings _)) _ _))
  all_goals exact .next (.refl _ s)

theorem execRemovalOrder_keeps : Answers (Keeps [] s) (execRemovalOrder s) := by
  unfold execRemovalOrder
  split
  · exact .next ((State.transit_keeps s _ (by rfl)).trans
      (Keeps.foldl (State.updateSource_keeps (Source.takeRemoval_settings _)) _ _))
  all_goals exact .next (.refl _ s)

theorem State.takeSetSource_keeps (i e d : Byte) (f r p : Half) :
    Keeps [.setpoints] s (s.takeSetSource i e d f r p).1 := by
  unfold State.takeSetSource
  split
  · exact (State.setSource_writes s _ _).trans (State.recompute_keeps false _ _).weaken
  · exact .refl _ s

theorem State.takeHoldSource_keeps (i h : Byte) : Keeps [] s (s.takeHoldSource i h).1 := by
  unfold State.takeHoldSource
  split
  · next h _ _ => exact State.updateSource_keeps (f := fun x => { x with hold := h }) (fun _ => rfl) s _
  · exact .refl _ s

theorem State.takeReleaseLatch_keeps (i : Byte) : Keeps [.claim] s (s.takeReleaseLatch i).1 := by
  have hr : ∀ x : Source, x.takeRelease.settings = x.settings := fun _ => rfl
  unfold State.takeReleaseLatch
  split
  · exact .refl _ s
  · split
    · exact State.commit_keeps s _ _ (fun t _ => State.updateSource_keeps hr t _) _
    · exact (State.updateSource_keeps hr s _).weaken

theorem State.takeGetSource_state (i : Byte) : (s.takeGetSource i).1 = s := by
  unfold State.takeGetSource
  split <;> rfl

/-! ### The span controller -/

theorem execCutOrder_keeps : Answers (Keeps [] s) (execCutOrder s) := by
  unfold execCutOrder
  split
  · exact .next ((State.transit_keeps s _ (by rfl)).trans (State.takeCut_keeps _ _ _))
  all_goals exact .next (.refl _ s)

theorem execLockOrder_keeps : Answers (Keeps [] s) (execLockOrder s) := by
  unfold execLockOrder
  split
  · exact .next ((State.transit_keeps s _ (by rfl)).trans (State.takeLock_keeps _ _ _))
  all_goals exact .next (.refl _ s)

theorem execClearAtSpanController_keeps : Answers (Keeps [] s) (execClearAtSpanController s) := by
  unfold execClearAtSpanController
  split
  · exact .next ((State.transit_keeps s _ (by rfl)).trans (State.takeSpanClear_keeps _ _ _))
  all_goals exact .next (.refl _ s)

theorem execBlockerReexamination_keeps : Answers (Keeps [] s) (execBlockerReexamination s) := by
  unfold execBlockerReexamination
  split
  · exact .next ((State.transit_keeps s _ (by rfl)).trans (State.reexamine_keeps _ _))
  all_goals exact .next (.refl _ s)

theorem execSettleExpiry_keeps (d : Degree) : Answers (Keeps [] s) (execSettleExpiry d s) := by
  unfold execSettleExpiry
  split
  · exact .next (State.enterAwait_keeps s d _ _ fun _ => by rfl)
  · exact .next (.refl _ s)

theorem execIntervalExpiry_keeps (d : Degree) : Answers (Keeps [] s) (execIntervalExpiry d s) := by
  have hmark : Keeps [] s (s.setSpan d { s.span d with honoured := false }) := State.setSpan_keeps s _ _ (by rfl)
  unfold execIntervalExpiry
  dsimp only
  split
  · split
    · exact .next (hmark.trans (State.setSpan_keeps _ _ _ (by rfl)))
    · exact .next (hmark.trans (State.intervalInAwait_keeps _ d))
    all_goals exact .next (.refl _ s)
  · exact .next (.refl _ s)

theorem execProbeTimerExpiry_keeps (d : Degree) : Answers (Keeps [] s) (execProbeTimerExpiry d s) := by
  unfold execProbeTimerExpiry
  split
  · split
    · exact .next (State.moveSpan_keeps s d _ _ _ _ fun _ => by rfl)
    · exact .next (State.enterAwait_keeps s d _ _ fun _ => by rfl)
    all_goals exact .next (State.failProbe_keeps s d)
  · exact .next (.refl _ s)

theorem execRequestTimerExpiry_keeps (d : Degree) : Answers (Keeps [] s) (execRequestTimerExpiry d s) := by
  unfold execRequestTimerExpiry
  split
  · exact .next (State.setSpan_keeps s _ _ (by rfl))
  · exact .next (.refl _ s)

theorem execRampStepExpiry_keeps (d : Degree) : Answers (Keeps [] s) (execRampStepExpiry d s) := by
  unfold execRampStepExpiry
  split
  · exact .next (State.stepRamp_keeps s d)
  · exact .next (.refl _ s)

theorem execFarWordAtSpanController_keeps (d : Degree) : Answers (Keeps [] s) (execFarWordAtSpanController d s) := by
  unfold execFarWordAtSpanController
  split
  · exact .next ((State.transit_keeps s _ (by rfl)).trans (State.takeFarWord_keeps _ d _))
  all_goals exact .next (.refl _ s)

theorem execSiteOrdinalChange_keeps (d : Degree) : Answers (Keeps [] s) (execSiteOrdinalChange d s) := by
  unfold execSiteOrdinalChange
  split
  · exact .next ((State.transit_keeps s _ (by rfl)).trans (State.takeOrdinalChange_keeps _ d _))
  all_goals exact .next (.refl _ s)

theorem State.takeSetSpan_keeps (d : Byte) (c : RawSpanConfig) : Keeps [.spanConfig] s (s.takeSetSpan d c).1 := by
  unfold State.takeSetSpan
  split
  · exact .refl _ s
  · exact (State.setSpan_writes s _ _).trans (State.recomputeAll_keeps false _ _).weaken

theorem State.takeLockRequest_keeps (d : Byte) : Keeps [] s (s.takeLockRequest d).1 := by
  unfold State.takeLockRequest
  split
  · exact .refl _ s
  · exact State.takeLock_keeps s _ _

theorem State.release_keeps (c : SpanCause) (s : State) (d : Degree) : Keeps [] s (State.release c s d) :=
  State.enterDark_keeps s d c _ none fun _ => by rfl

theorem State.probeManually_keeps (ms : Nat) (s : State) (d : Degree) : Keeps [] s (State.probeManually ms s d) :=
  State.moveSpan_keeps s d _ _ _ none fun _ => by rfl

theorem State.takeGetSpan_state (d : Byte) : (s.takeGetSpan d).1 = s := by
  unfold State.takeGetSpan
  split <;> rfl

/-! ### The span word unit -/

theorem execSpanWordReceived_keeps (d : Degree) (l : List Byte) (idle : Bool) :
    Answers (Keeps [.lines, .conditions] s) (execSpanWordReceived d l idle s) := by
  have hbytes : Keeps [.lines, .conditions] s (l.foldl (State.receiveByte d) s) :=
    Keeps.foldl (State.receiveByte_keeps d) l s
  unfold execSpanWordReceived
  refine .next ?_
  split
  · exact hbytes.trans (State.fallIdle_keeps _ d)
  · exact hbytes

theorem execLineTimerExpiry_keeps (d : Degree) :
    Answers (Keeps [.lines, .conditions] s) (execLineTimerExpiry d s) := by
  unfold execLineTimerExpiry
  dsimp only
  split
  · exact .next ((State.setLine_keeps_conditions s _ _ (by rfl)).trans (State.lineDecides_keeps_lines _ _ _ _))
  · exact .next (.refl _ s)

theorem State.takeSetSite_keeps (o a b c d : Half) : Keeps [.site, .lines] s (s.takeSetSite o a b c d).1 := by
  have hwords : ∀ u : WordUnit, Keeps [.site, .lines] s { s with words := u } := fun u =>
    ⟨fun p hp => by cases p <;> first | rfl | exact absurd (by decide) hp⟩
  unfold State.takeSetSite
  dsimp only
  split
  · exact hwords _
  · exact (hwords _).trans (Keeps.foldl (fun t d => State.handLine_keeps t d _) _ _).weaken

theorem State.takeGetLine_keeps (d : Byte) : Keeps [] s (s.takeGetLine d).1 := by
  unfold State.takeGetLine
  split
  · exact .refl _ s
  · split
    · exact .refl _ s
    · exact ⟨fun p _ => by cases p <;> rfl⟩

/-! ### Captures, claims, profiles -/

theorem State.fillBuffer_keeps (d : Degree) (x : Sample) (s : State) (b : BufferNo) :
    Keeps [.capture] s (State.fillBuffer d x s b) := by
  unfold State.fillBuffer
  split
  · split
    · dsimp only
      split
      · exact State.setCapture_keeps s _
      · exact (State.setCapture_keeps s _).trans (State.handReport_keeps _ _ _).weaken
    · exact .refl _ s
  all_goals exact .refl _ s

theorem execHistorySample_keeps (d : Degree) : Answers (Keeps [.capture] s) (execHistorySample d s) := by
  unfold execHistorySample
  split
  · exact .next (((State.transit_keeps s _ (by rfl)).weaken.trans (State.setCapture_keeps _ _)).trans
      (Keeps.foldl (State.fillBuffer_keeps d _) _ _))
  · exact .next (.refl _ s)

theorem State.takeTrigger_keeps (d : Degree) (k : Key) : Keeps [.capture] s (s.takeTrigger d k) := by
  unfold State.takeTrigger
  split
  · exact State.setCapture_keeps s _
  · exact (State.handReport_keeps s _ _).weaken

theorem execCaptureTrigger_keeps (d : Degree) : Answers (Keeps [.capture] s) (execCaptureTrigger d s) := by
  unfold execCaptureTrigger
  split
  · exact .next ((State.transit_keeps s _ (by rfl)).weaken.trans (State.takeTrigger_keeps _ d _))
  · exact .next (.refl _ s)

theorem State.takeReleaseCapture_keeps (b : Byte) : Keeps [.capture] s (s.takeReleaseCapture b).1 := by
  unfold State.takeReleaseCapture
  split
  · exact .refl _ s
  · split
    · exact State.setCapture_keeps s _
    all_goals exact .refl _ s

theorem State.takeReadCapture_state (b p : Byte) : (s.takeReadCapture b p).1 = s := by
  unfold State.takeReadCapture
  split
  · split <;> rfl
  · rfl

theorem State.takeNotice_keeps (n : Notice) : Keeps [.claim] s (s.takeNotice n) := by
  unfold State.takeNotice
  split
  · split
    · exact State.endClaim_keeps s _
    · exact .refl _ s
  · exact .refl _ s

theorem execClaimNotice_keeps (n : Notice) : Answers (Keeps [.claim] s) (execClaimNotice n s) := by
  unfold execClaimNotice
  split
  · exact .next (Keeps.trans (State.transit_keeps s _ (by rfl)).weaken (State.takeNotice_keeps _ n))
  · exact .next (.refl _ s)

theorem execClaimBreak_keeps (c : BreakCause) : Answers (Keeps [.claim] s) (execClaimBreak c s) := by
  unfold execClaimBreak
  split
  · exact .next (Keeps.trans (State.transit_keeps s _ (by rfl)).weaken (State.endClaim_keeps _ _))
  · exact .next (.refl _ s)

theorem execClaimLifeExpiry_keeps : Answers (Keeps [.claim] s) (execClaimLifeExpiry s) := by
  unfold execClaimLifeExpiry
  split
  · refine .next ?_
    split
    · exact State.endClaim_keeps s _
    · exact .refl _ s
  · exact .next (.refl _ s)

theorem State.takeClaim_keeps (n : Byte) (l : List Byte) : Keeps [.claim] s (s.takeClaim n l).1 := by
  unfold State.takeClaim
  split
  · exact .refl _ s
  · exact (State.endClaim_keeps s .replaced).trans (State.setClaim_keeps _ _)

theorem State.takeSetProfile_keeps (p d : Byte) (l : RawLimits) (a m : Byte) :
    Keeps [.profiles] s (s.takeSetProfile p d l a m).1 := by
  unfold State.takeSetProfile
  split
  · exact keeps_single fun p hp => by cases p <;> first | rfl | exact absurd rfl hp
  · exact .refl _ s

theorem State.takeGetProfile_state (p d : Byte) : (s.takeGetProfile p d).1 = s := by
  unfold State.takeGetProfile
  split <;> rfl

theorem State.takeSelectProfile_keeps (p : Byte) : Keeps [.selector] s (s.takeSelectProfile p).1 := by
  unfold State.takeSelectProfile
  split
  · exact .refl _ s
  · dsimp only
    split
    · exact .refl _ s
    · exact keeps_single fun p hp => by cases p <;> first | rfl | exact absurd rfl hp

theorem State.takeSetChannel_keeps (c : Byte) (d g : Half) : Keeps [.calib] s (s.takeSetChannel c d g).1 := by
  unfold State.takeSetChannel
  split
  · exact .refl _ s
  · exact keeps_single fun p hp => by cases p <;> first | rfl | exact absurd rfl hp

theorem State.takeGetReading_state (a b : Byte) : (s.takeGetReading a b).1 = s := by
  unfold State.takeGetReading
  split <;> rfl

/-! ### The host link -/

theorem HostLink.enqueue_notify (l : HostLink) (r : Report) : (l.enqueue r).notify = l.notify := by
  unfold HostLink.enqueue
  split <;> rfl

theorem execReportEnqueue_keeps (c : Category) : Answers (Keeps [] s) (execReportEnqueue c s) := by
  unfold execReportEnqueue
  split
  · exact .next ((State.transit_keeps s _ (by rfl)).trans (State.setLink_keeps _ _ (HostLink.enqueue_notify _ _)))
  · exact .next (.refl _ s)

theorem State.handFrame_keeps (f : Frame) : Keeps [] s (s.handFrame f) := ⟨fun p _ => by cases p <;> rfl⟩

theorem State.hunt_keeps : Keeps [] s (s.setLink s.link.hunt) := State.setLink_keeps s _ (by rfl)

theorem State.keepByte_keeps (n : Byte) (l : List Byte) : Keeps [] s (s.keepByte n l) := by
  unfold State.keepByte
  split
  · exact State.setLink_keeps s _ (by rfl)
  · dsimp only
    split
    · exact (State.hunt_keeps s).trans (State.handFrame_keeps _ _)
    · exact State.hunt_keeps s

theorem State.frameByte_keeps (b : Byte) : Keeps [] s (s.frameByte b) := by
  unfold State.frameByte
  split
  · split
    · exact State.setLink_keeps s _ (by rfl)
    · exact .refl _ s
  · split
    · exact State.setLink_keeps s _ (by rfl)
    · exact State.hunt_keeps s
  · exact State.keepByte_keeps s _ _

theorem execCharacterError_keeps : Answers (Keeps [] s) (execCharacterError s) := by
  unfold execCharacterError
  split
  · exact .next (.refl _ s)
  all_goals exact .next (State.hunt_keeps s)

theorem execGapTimerExpiry_keeps : Answers (Keeps [] s) (execGapTimerExpiry s) := by
  unfold execGapTimerExpiry
  split
  · exact .next (State.hunt_keeps s)
  · exact .next (.refl _ s)

theorem State.placeInHand_keeps (f : Frame) : Keeps [] s (s.placeInHand f) := by
  have hlink : Keeps [] s (s.setLink { s.link with hand := some { frame := f, answered := false } }) :=
    State.setLink_keeps s _ (by rfl)
  unfold State.placeInHand
  dsimp only
  split
  · exact hlink.trans (State.replyInHand_keeps _ _)
  · exact hlink.trans (State.replyInHand_keeps _ _)
  · exact hlink

theorem State.placeFrame_keeps (f : Frame) : Keeps [] s (s.placeFrame f) := by
  unfold State.placeFrame
  split
  · exact State.placeInHand_keeps s f
  · split
    · exact .refl _ s
    · exact State.setLink_keeps s _ (by rfl)
  · split
    · exact .refl _ s
    · split
      · exact State.setLink_keeps s _ (by rfl)
      · exact .refl _ s

theorem execFrameComplete_keeps : Answers (Keeps [] s) (execFrameComplete s) := by
  unfold execFrameComplete
  split
  · exact .next ((State.transit_keeps s _ (by rfl)).trans (State.placeFrame_keeps _ _))
  · exact .next (.refl _ s)

theorem State.emptyHand_keeps : Keeps [] s s.emptyHand := by
  unfold State.emptyHand
  split
  · exact Keeps.trans (State.setLink_keeps s _ (by rfl)) (State.placeInHand_keeps _ _)
  · exact State.setLink_keeps s _ (by rfl)

theorem State.leaveReset_keeps : Keeps [.conditions] s s.leaveReset := by
  unfold State.leaveReset
  split
  · exact (State.setShut_keeps s _).weaken.trans (State.raise_keeps _ _)
  · exact .refl _ s

theorem Contact.leaveReset_settings (c : Contact) : c.leaveReset.settings = c.settings := by
  unfold Contact.leaveReset
  dsimp only
  split <;> rfl

/-- The part at a soft reset, before the master-shut input is looked at. -/
def State.softResetBlocks (s : State) : State :=
  { s with
    now := 0
    front := { defaultFrontEnd with calib := s.front.calib }
    cond := s.cond.softReset
    map := { s.map with queue := [] }
    grant := { sources := Vector.ofFn fun i => (s.source i).softReset }
    ctrl := { spans := Vector.ofFn fun d => (s.span d).softReset s.words.own }
    words := { s.words with lines := Vector.ofFn fun d => (s.line d).softReset (s.limits d).lineTimeout }
    claim := defaultClaim
    capture := defaultCapture
    link := s.link.softReset
    transit := emptyTransit }

theorem State.softReset_eq : s.softReset = s.softResetBlocks.leaveReset := rfl

theorem State.softResetBlocks_contact (k : ContactNo) : s.softResetBlocks.contact k = (s.contact k).leaveReset :=
  look_ofFn _ k

theorem State.softResetBlocks_source (i : SourceNo) : s.softResetBlocks.source i = (s.source i).softReset :=
  look_ofFn _ i

theorem State.softResetBlocks_span (d : Degree) :
    s.softResetBlocks.span d = (s.span d).softReset s.words.own := look_ofFn _ d

theorem State.softResetBlocks_line (d : Degree) :
    s.softResetBlocks.line d = (s.line d).softReset (s.limits d).lineTimeout := look_ofFn _ d

/-- The soft reset keeps every configuration value (R4, R30, R38, R59, R85, R124, R134, R173). -/
theorem State.softReset_keeps : Keeps [.readings, .lines, .conditions, .capture, .claim] s s.softReset := by
  rw [State.softReset_eq]
  refine Keeps.trans ⟨fun p hp => ?_⟩ ((State.leaveReset_keeps _).mono (by decide))
  cases p
  case contacts =>
    funext k
    rw [State.softResetBlocks_contact, Contact.leaveReset_settings]
  case setpoints => funext i; rw [State.softResetBlocks_source]; rfl
  case spanConfig => funext d; rw [State.softResetBlocks_span]; rfl
  case site =>
    refine congrArg (Prod.mk s.words.own) ?_
    funext d
    rw [State.softResetBlocks_line]
    rfl
  all_goals first | rfl | exact absurd (by decide) hp

theorem execReplySent_keeps :
    Answers (Keeps [.readings, .lines, .conditions, .capture, .claim] s) (execReplySent s) := by
  unfold execReplySent
  split
  · next r rest _ =>
    have hlink : Keeps [] s (s.setLink { s.link with replies := rest }) := State.setLink_keeps s _ (by rfl)
    refine .next ?_
    dsimp only
    split
    · exact hlink.weaken
    · refine hlink.weaken.trans ?_
      unfold State.handSent
      split
      · split
        · exact State.softReset_keeps _
        · exact (State.emptyHand_keeps _).weaken
      · exact .refl _ _
  · exact .next (.refl _ s)

theorem State.takeSetNotify_keeps (m : Byte) : Keeps [.notify] s (s.takeSetNotify m).1 := by
  unfold State.takeSetNotify
  split
  · exact keeps_single fun p hp => by cases p <;> first | rfl | exact absurd rfl hp
  · exact .refl _ s

theorem execResetPart_keeps : Answers (Keeps [] s) (execResetPart s) := by
  have hreply : ∀ t, Keeps [] s t →
      Keeps [] s (if t.awaits = some .resetPart then t.replyInHand [codeOk] else t) := by
    intro t ht
    split
    · exact ht.trans (State.replyInHand_keeps _ _)
    · exact ht
  refine .next (hreply _ ?_)
  split
  · exact .refl _ s
  · exact State.placeFrame_keeps s _

/-! ### All commands -/

/-- A query leaves every aspect. -/
theorem State.query_keeps {s : State} {r : State × List Byte} (i : Instr) (h : r.1 = s) :
    Answers (Keeps [] s) (.next (State.serve i r)) :=
  State.serve_keeps i (h ▸ .refl _ _)

/-- A command writes no aspect but those named for it. -/
theorem exec_keeps (i : Instr) : Answers (Keeps (aspectsWritten i) s) (exec i s) := by
  cases i with
  | powerOnReset => exact fun t _ => ⟨fun p hp => absurd (by cases p <;> decide) hp⟩
  | monitorReading c code valid => exact execMonitorReading_keeps s c code valid
  | historySample d => exact execHistorySample_keeps s d
  | lookup => exact execLookup_keeps s
  | snapshotWrite => exact execSnapshotWrite_keeps s
  | forcedClear d => exact execForcedClear_keeps s d
  | contactLevelChange k => exact .next (State.setContact_keeps s k _ (Contact.changeLevel_settings _))
  | debounceExpiry k => exact execDebounceExpiry_keeps s k
  | masterShutAssertion => exact execMasterShutAssertion_keeps s
  | masterShutDeassertion => exact .next (State.setShut_keeps s _)
  | clearDelayExpiry => exact execClearDelayExpiry_keeps s
  | restrictionOrder => exact execRestrictionOrder_keeps s
  | clearAtGrantUnit => exact execClearAtGrantUnit_keeps s
  | removalOrder => exact execRemovalOrder_keeps s
  | cutOrder => exact execCutOrder_keeps s
  | lockOrder => exact execLockOrder_keeps s
  | clearAtSpanController => exact execClearAtSpanController_keeps s
  | blockerReexamination => exact execBlockerReexamination_keeps s
  | settleExpiry d => exact execSettleExpiry_keeps s d
  | intervalExpiry d => exact execIntervalExpiry_keeps s d
  | probeTimerExpiry d => exact execProbeTimerExpiry_keeps s d
  | requestTimerExpiry d => exact execRequestTimerExpiry_keeps s d
  | rampStepExpiry d => exact execRampStepExpiry_keeps s d
  | farWordAtSpanController d => exact execFarWordAtSpanController_keeps s d
  | siteOrdinalChange d => exact execSiteOrdinalChange_keeps s d
  | spanWordSend d => exact .next (State.setLine_keeps s d _ (by rfl))
  | spanWordReceived d l idle => exact execSpanWordReceived_keeps s d l idle
  | lineTimerExpiry d => exact execLineTimerExpiry_keeps s d
  | captureTrigger d => exact execCaptureTrigger_keeps s d
  | claimNotice n => exact execClaimNotice_keeps s n
  | claimBreak c => exact execClaimBreak_keeps s c
  | claimLifeExpiry => exact execClaimLifeExpiry_keeps s
  | counterZeroing => exact execCounterZeroing_keeps s
  | reevaluation => exact execReevaluation_keeps s
  | rewrittenSnapshotWrite => exact execRewrittenSnapshotWrite_keeps s
  | reportEnqueue c => exact execReportEnqueue_keeps s c
  | hostByteReceived b => exact .next (State.frameByte_keeps s b)
  | characterError => exact execCharacterError_keeps s
  | resync => exact .next (Keeps.trans (State.hunt_keeps s) ⟨fun p _ => by cases p <;> rfl⟩)
  | gapTimerExpiry => exact execGapTimerExpiry_keeps s
  | frameComplete => exact execFrameComplete_keeps s
  | replySent => exact execReplySent_keeps s
  | setChannel c d g => exact State.serve_keeps _ (State.takeSetChannel_keeps s c d g)
  | getReading a b => exact State.query_keeps _ (State.takeGetReading_state s a b)
  | setContact k u l d t => exact State.serve_keeps _ (State.takeSetContact_keeps s k u l d t)
  | getContact => exact State.query_keeps _ rfl
  | getConditions a b => exact State.query_keeps _ (State.takeGetConditions_state s a b)
  | putEntry p g k c n as x w =>
    exact State.serve_keeps _ (refuseIllFormed_keeps _ (State.takePutEntry_keeps s p g k c n as x w))
  | parkEntry e => exact State.serve_keeps _ (State.takeParkEntry_keeps s e)
  | unparkEntry e => exact State.serve_keeps _ (State.takeUnparkEntry_keeps s e)
  | freeEntry e => exact State.serve_keeps _ (State.takeFreeEntry_keeps s e)
  | getEntry e => exact State.query_keeps _ (State.takeGetEntry_state s e)
  | testKey k a b => exact State.query_keeps _ (State.takeTestKey_state s k a b)
  | setSource i e d f r p => exact State.serve_keeps _ (State.takeSetSource_keeps s i e d f r p)
  | holdSource i h => exact State.serve_keeps _ (State.takeHoldSource_keeps s i h)
  | releaseLatch i => exact State.serve_keeps _ (State.takeReleaseLatch_keeps s i)
  | getSource i => exact State.query_keeps _ (State.takeGetSource_state s i)
  | setSpan d c => exact State.serve_keeps _ (State.takeSetSpan_keeps s d c)
  | lock d => exact State.serve_keeps _ (State.takeLockRequest_keeps s d)
  | resume n l =>
    exact State.serve_keeps _ (refuseIllFormed_keeps _ (State.spanCommit_keeps s n l _ (State.release_keeps _) _))
  | unlock n l =>
    exact State.serve_keeps _ (refuseIllFormed_keeps _ (State.spanCommit_keeps s n l _ (State.release_keeps _) _))
  | getSpan d => exact State.query_keeps _ (State.takeGetSpan_state s d)
  | probeNow n t l =>
    exact State.serve_keeps _
      (refuseIllFormed_keeps _ (State.spanCommit_keeps s n l _ (State.probeManually_keeps _) _))
  | setSite o a b c d => exact State.serve_keeps _ (State.takeSetSite_keeps s o a b c d)
  | getLine d => exact State.serve_keeps _ (State.takeGetLine_keeps s d)
  | setProfile p d l a m => exact State.serve_keeps _ (State.takeSetProfile_keeps s p d l a m)
  | getProfile p d => exact State.query_keeps _ (State.takeGetProfile_state s p d)
  | selectProfile p => exact State.serve_keeps _ (State.takeSelectProfile_keeps s p)
  | claim n l => exact State.serve_keeps _ (refuseIllFormed_keeps _ (State.takeClaim_keeps s n l))
  | getClaim => exact State.query_keeps _ rfl
  | readCapture b p => exact State.query_keeps _ (State.takeReadCapture_state s b p)
  | releaseCapture b => exact State.serve_keeps _ (State.takeReleaseCapture_keeps s b)
  | getCapture => exact State.query_keeps _ rfl
  | readReports => exact State.serve_keeps _ (State.setLink_keeps s _ (by rfl))
  | setNotify m => exact State.serve_keeps _ (State.takeSetNotify_keeps s m)
  | identify => exact State.query_keeps _ rfl
  | resetPart => exact execResetPart_keeps s

end Sys2Proof.Machine
end

section
/-! SUPPORT and O8. Each configured aspect has one owner beside the power-on reset. -/

namespace Sys2Proof.Machine

theorem calib_owner {i : Instr} (hi : i ≠ .powerOnReset) (h : .calib ∈ aspectsWritten i) :
    ∃ c d g, i = .setChannel c d g := by
  cases i with
  | setChannel c d g => exact ⟨c, d, g, rfl⟩
  | powerOnReset => exact absurd rfl hi
  | _ => exact absurd h (of_decide_eq_false rfl)

theorem contacts_owner {i : Instr} (hi : i ≠ .powerOnReset) (h : .contacts ∈ aspectsWritten i) :
    ∃ k u l d b, i = .setContact k u l d b := by
  cases i with
  | setContact k u l d b => exact ⟨k, u, l, d, b, rfl⟩
  | powerOnReset => exact absurd rfl hi
  | _ => exact absurd h (of_decide_eq_false rfl)

theorem entries_owner {i : Instr} (hi : i ≠ .powerOnReset) (h : .entries ∈ aspectsWritten i) :
    (∃ p g k c n as x w, i = .putEntry p g k c n as x w) ∨ (∃ e, i = .parkEntry e) ∨
      (∃ e, i = .unparkEntry e) ∨ ∃ e, i = .freeEntry e := by
  cases i with
  | putEntry p g k c n as x w => exact .inl ⟨p, g, k, c, n, as, x, w, rfl⟩
  | parkEntry e => exact .inr (.inl ⟨e, rfl⟩)
  | unparkEntry e => exact .inr (.inr (.inl ⟨e, rfl⟩))
  | freeEntry e => exact .inr (.inr (.inr ⟨e, rfl⟩))
  | powerOnReset => exact absurd rfl hi
  | _ => exact absurd h (of_decide_eq_false rfl)

theorem setpoints_owner {i : Instr} (hi : i ≠ .powerOnReset) (h : .setpoints ∈ aspectsWritten i) :
    ∃ j e d f r p, i = .setSource j e d f r p := by
  cases i with
  | setSource j e d f r p => exact ⟨j, e, d, f, r, p, rfl⟩
  | powerOnReset => exact absurd rfl hi
  | _ => exact absurd h (of_decide_eq_false rfl)

theorem spanConfig_owner {i : Instr} (hi : i ≠ .powerOnReset) (h : .spanConfig ∈ aspectsWritten i) :
    ∃ d c, i = .setSpan d c := by
  cases i with
  | setSpan d c => exact ⟨d, c, rfl⟩
  | powerOnReset => exact absurd rfl hi
  | _ => exact absurd h (of_decide_eq_false rfl)

theorem site_owner {i : Instr} (hi : i ≠ .powerOnReset) (h : .site ∈ aspectsWritten i) :
    ∃ o a b c d, i = .setSite o a b c d := by
  cases i with
  | setSite o a b c d => exact ⟨o, a, b, c, d, rfl⟩
  | powerOnReset => exact absurd rfl hi
  | _ => exact absurd h (of_decide_eq_false rfl)

theorem profiles_owner {i : Instr} (hi : i ≠ .powerOnReset) (h : .profiles ∈ aspectsWritten i) :
    ∃ p d l a m, i = .setProfile p d l a m := by
  cases i with
  | setProfile p d l a m => exact ⟨p, d, l, a, m, rfl⟩
  | powerOnReset => exact absurd rfl hi
  | _ => exact absurd h (of_decide_eq_false rfl)

theorem selector_owner {i : Instr} (hi : i ≠ .powerOnReset) (h : .selector ∈ aspectsWritten i) :
    ∃ p, i = .selectProfile p := by
  cases i with
  | selectProfile p => exact ⟨p, rfl⟩
  | powerOnReset => exact absurd rfl hi
  | _ => exact absurd h (of_decide_eq_false rfl)

theorem notify_owner {i : Instr} (hi : i ≠ .powerOnReset) (h : .notify ∈ aspectsWritten i) :
    ∃ m, i = .setNotify m := by
  cases i with
  | setNotify m => exact ⟨m, rfl⟩
  | powerOnReset => exact absurd rfl hi
  | _ => exact absurd h (of_decide_eq_false rfl)

/-- An aspect stands unless the step may write it. -/
theorem Keeps.same_or {w : List Aspect} {s t : State} (h : Keeps w s t) (p : Aspect) :
    Aspect.Same s t p ∨ p ∈ w :=
  (Classical.em (p ∈ w)).elim .inr fun hp => .inl (h.same p hp)

theorem Aspect.Same.contact {s t : State} (h : Aspect.Same s t .contacts) (k : ContactNo) :
    (t.contact k).use = (s.contact k).use ∧ (t.contact k).openLevel = (s.contact k).openLevel ∧
      (t.contact k).degree = (s.contact k).degree ∧ (t.contact k).debounce = (s.contact k).debounce := by
  simpa only [Contact.settings, Prod.mk.injEq] using congrFun h k

theorem Aspect.Same.source {s t : State} (h : Aspect.Same s t .setpoints) (i : SourceNo) :
    (t.source i).exposure = (s.source i).exposure ∧ (t.source i).full = (s.source i).full ∧
      (t.source i).reduced = (s.source i).reduced ∧ (t.source i).probe = (s.source i).probe := by
  simpa only [Source.settings, Prod.mk.injEq] using congrFun h i

/-- Settles O8: every command leaves what it is not said to write (`exec_keeps`), and each configured aspect is written by
its own request alone. -/
theorem configurationChangesOnlyByItsOwnRequest : Obligations.ConfigurationChangesOnlyByItsOwnRequest := by
  intro i s t hi ht
  have hk := exec_keeps s i t ht
  refine ⟨?_, ?_, ?_, ?_, ?_, ?_, ?_, ?_, ?_⟩
  · exact (hk.same_or .calib).imp id (calib_owner hi)
  · exact (hk.same_or .contacts).imp (fun h => h.contact) (contacts_owner hi)
  · exact (hk.same_or .entries).imp id (entries_owner hi)
  · exact (hk.same_or .setpoints).imp (fun h => h.source) (setpoints_owner hi)
  · exact (hk.same_or .spanConfig).imp (fun h => congrFun h) (spanConfig_owner hi)
  · exact (hk.same_or .site).imp (fun h => ⟨(Prod.mk.inj h).1, congrFun (Prod.mk.inj h).2⟩) (site_owner hi)
  · exact (hk.same_or .profiles).imp id (profiles_owner hi)
  · exact (hk.same_or .selector).imp id (selector_owner hi)
  · exact (hk.same_or .notify).imp id (notify_owner hi)

end Sys2Proof.Machine
end

section
/-! SUPPORT. Every command keeps the line records safe (R124 to R130, R180), the rings and buffers (R155, R156), and the
claim record (R144, R146, R149). -/

namespace Sys2Proof.Machine

/-! ### Line records -/

theorem LineSafe.withExpected {r : Line} (h : LineSafe r) (o : Ordinal) : LineSafe { r with expected := o } :=
  ⟨h.run, h.lostRun, h.timer, h.counts, h.receiving, h.sent⟩

theorem countTo65535_le (n : Nat) : countTo65535 n ≤ 65535 := Nat.min_le_left ..

theorem Line.discard_safe {r : Line} (h : LineSafe r) : LineSafe r.discard where
  run := Nat.zero_le 3
  lostRun _ := Nat.zero_lt_succ 2
  timer := h.timer
  counts := ⟨h.counts.1, h.counts.2.1, countTo65535_le _⟩
  receiving := h.receiving
  sent := h.sent

/-- An accepted word leaves a safe line whatever the line's loss and recovery run were before it (R127, R130). -/
theorem Line.accept_safe {r : Line} (h : LineSafe r) (run : Nat) (lost : Bool) (timeout : Nat) (w : FarWord) :
    LineSafe (Line.accept { r with recovery := run, lost := lost } timeout w) where
  run := Nat.min_le_left ..
  lostRun := fun h => absurd h Bool.false_ne_true
  timer := rfl
  counts := h.counts
  receiving := h.receiving
  sent := h.sent

/-- A recovery word below the third (R130). -/
theorem LineSafe.withRun {r : Line} (h : LineSafe r) {n : Nat} (hn : n < 3) : LineSafe { r with recovery := n } :=
  ⟨Nat.le_of_lt hn, fun _ => hn, h.timer, h.counts, h.receiving, h.sent⟩

/-- A mismatched word on a line that is lost (R126). -/
theorem LineSafe.mismatch {r : Line} (h : LineSafe r) :
    LineSafe { r with recovery := 0, mismatched := countTo65535 r.mismatched } :=
  ⟨Nat.zero_le 3, fun _ => Nat.zero_lt_succ 2, h.timer, ⟨h.counts.1, countTo65535_le _, h.counts.2.2⟩, h.receiving,
    h.sent⟩

/-- A mismatched word on a line that is up, which restarts the line timer (R126). -/
theorem LineSafe.mismatchUp {r : Line} (h : LineSafe r) (hup : ¬r.lost = true) (timeout : Nat) :
    LineSafe { r with
      recovery := 0, mismatched := countTo65535 r.mismatched, timer := some timeout, miswire := true } :=
  ⟨Nat.zero_le 3, fun _ => Nat.zero_lt_succ 2, by simp [hup], ⟨h.counts.1, countTo65535_le _, h.counts.2.2⟩,
    h.receiving, h.sent⟩

theorem LineSafe.countAccepted {r : Line} (h : LineSafe r) :
    LineSafe { r with accepted := countTo65535 r.accepted } :=
  ⟨h.run, h.lostRun, h.timer, ⟨countTo65535_le _, h.counts.2⟩, h.receiving, h.sent⟩

/-- The line timer's expiry (R129). -/
theorem LineSafe.lose {r : Line} (h : LineSafe r) : LineSafe { r with lost := true, recovery := 0, timer := none } :=
  ⟨Nat.zero_le 3, fun _ => Nat.zero_lt_succ 2, rfl, h.counts, h.receiving, h.sent⟩

theorem LineSafe.withReceiving {r : Line} (h : LineSafe r) {x : Option (List Byte)}
    (hx : ∀ l, x = some l → 1 ≤ l.length ∧ l.length < 6) : LineSafe { r with receiving := x } :=
  ⟨h.run, h.lostRun, h.timer, h.counts, hx, h.sent⟩

theorem LineSafe.withSent {r : Line} (h : LineSafe r) {x : Option (List Byte)}
    (hx : ∀ l, x = some l → l.length = 6) : LineSafe { r with sent := x } :=
  ⟨h.run, h.lostRun, h.timer, h.counts, h.receiving, hx⟩

theorem Line.softReset_safe {r : Line} (h : LineSafe r) (timeout : Nat) : LineSafe (r.softReset timeout) where
  run := Nat.zero_le 3
  lostRun := fun h => absurd h Bool.false_ne_true
  timer := rfl
  counts := ⟨Nat.zero_le _, Nat.zero_le _, Nat.zero_le _⟩
  receiving := fun _ h => nomatch h
  sent := h.sent

theorem defaultLine_safe : LineSafe defaultLine where
  run := Nat.zero_le 3
  lostRun := fun h => absurd h Bool.false_ne_true
  timer := rfl
  counts := ⟨Nat.zero_le _, Nat.zero_le _, Nat.zero_le _⟩
  receiving := fun _ h => nomatch h
  sent := fun _ h => nomatch h

theorem tickLine_safe {r : Line} (h : LineSafe r) : LineSafe (tickLine r) :=
  ⟨h.run, h.lostRun, (Option.isSome_map ..).trans h.timer, h.counts, h.receiving, h.sent⟩

theorem spanWordBytes_length (own : Ordinal) (d : Degree) (code : BitVec 3) (flags : BitVec 5) :
    (spanWordBytes own d code flags).length = 6 := rfl

/-! ### The lines of a state -/

theorem State.LinesSafe.of_lines {s t : State} (hs : s.LinesSafe) (h : t.words.lines = s.words.lines) :
    t.LinesSafe := fun d => by
  have hd : t.line d = s.line d := by rw [State.line, h, State.line]
  rw [hd]
  exact hs d

theorem State.LinesSafe.setLine {s : State} (hs : s.LinesSafe) {d : Degree} {r : Line} (hr : LineSafe r) :
    (s.setLine d r).LinesSafe := fun e => by
  rw [State.line_setLine]
  split
  · exact hr
  · exact hs e

/-- A raise or clear of a line condition leaves the lines. -/
theorem State.LinesSafe.lineDecides {s : State} (hs : s.LinesSafe) (k : Key) (a b : Bool) :
    (s.lineDecides k a b).LinesSafe :=
  hs.of_lines ((State.lineDecides_keeps s k a b).same .lines (by decide))

/-- An accepted word: the lines are those with the accepted record written. -/
theorem State.acceptWord_lines (s : State) (d : Degree) (w : FarWord) :
    (s.acceptWord d w).words.lines = (s.setLine d ((s.line d).accept (s.limits d).lineTimeout w)).words.lines := by
  have hdecides : ∀ (u : State) (k : Key) (a b : Bool), (u.lineDecides k a b).words.lines = u.words.lines :=
    fun u k a b => (State.lineDecides_keeps u k a b).same .lines (by decide)
  unfold State.acceptWord
  rw [State.handLine_words, hdecides, hdecides, hdecides]

theorem State.LinesSafe.acceptWord {s : State} (hs : s.LinesSafe) (d : Degree) (w : FarWord) :
    (s.acceptWord d w).LinesSafe :=
  (hs.setLine (Line.accept_safe (hs d) _ _ _ w)).of_lines (State.acceptWord_lines s d w)

/-- A recovery word (R130): between its own write of the line and the accepted word's, the line timer still stands
stopped, so that only the two together leave a safe line. -/
theorem State.LinesSafe.recoverWord {s : State} (hs : s.LinesSafe) (d : Degree) (w : FarWord) :
    (s.recoverWord d w).LinesSafe := by
  unfold State.recoverWord
  dsimp only
  split
  · next hrun => exact hs.setLine ((hs d).withRun hrun)
  · generalize hu : (s.setLine d { s.line d with recovery := 3, lost := false }).clearDue (degreeKey .lineLost d)
      .normal = u
    have hlines : u.words.lines = (s.setLine d { s.line d with recovery := 3, lost := false }).words.lines :=
      hu ▸ (State.clearDue_keeps _ _ _).same .lines (by decide)
    have hline : u.line d = { s.line d with recovery := 3, lost := false } := by
      rw [State.line, hlines]
      exact look_put_same ..
    refine State.LinesSafe.of_lines (s := s.setLine d ((u.line d).accept (u.limits d).lineTimeout w)) ?_ ?_
    · rw [hline]
      exact hs.setLine (Line.accept_safe (hs d) _ _ _ w)
    · rw [State.acceptWord_lines]
      refine look_ext fun e => ?_
      show (u.setLine d _).line e = (s.setLine d _).line e
      rw [State.line_setLine, State.line_setLine]
      split
      · rfl
      · next he =>
        rw [State.line, hlines]
        exact look_put_ne _ _ he

theorem State.LinesSafe.mismatchWord {s : State} (hs : s.LinesSafe) (d : Degree) : (s.mismatchWord d).LinesSafe := by
  unfold State.mismatchWord
  dsimp only
  split
  · exact hs.setLine (hs d).mismatch
  · next hup => exact (hs.setLine ((hs d).mismatchUp hup _)).lineDecides _ _ _

theorem State.LinesSafe.matchWord {s : State} (hs : s.LinesSafe) (d : Degree) (w : FarWord) :
    (s.matchWord d w).LinesSafe := by
  have hcount : (s.setLine d { s.line d with accepted := countTo65535 (s.line d).accepted }).LinesSafe :=
    hs.setLine (hs d).countAccepted
  unfold State.matchWord
  dsimp only
  split
  · exact hcount.recoverWord d w
  · exact hcount.acceptWord d w

theorem State.LinesSafe.takeWord {s : State} (hs : s.LinesSafe) (d : Degree) (l : List Byte) :
    (s.takeWord d l).LinesSafe := by
  unfold State.takeWord
  split
  · exact hs.setLine (Line.discard_safe (hs d))
  · split
    · exact hs.mismatchWord d
    · exact hs.matchWord d _

theorem State.LinesSafe.setReceiving {s : State} (hs : s.LinesSafe) (d : Degree) {x : Option (List Byte)}
    (hx : ∀ l, x = some l → 1 ≤ l.length ∧ l.length < 6) : (s.setReceiving d x).LinesSafe :=
  hs.setLine ((hs d).withReceiving hx)

theorem State.LinesSafe.receiveByte {s : State} (hs : s.LinesSafe) (d : Degree) (b : Byte) :
    (State.receiveByte d s b).LinesSafe := by
  unfold State.receiveByte
  split
  · split
    · exact hs.setReceiving d fun l h => by cases h; exact ⟨Nat.le_refl 1, Nat.lt_of_sub_eq_succ rfl⟩
    · exact hs
  · next l hl =>
    have hopen := (hs d).receiving l hl
    split
    · refine hs.setReceiving d fun m h => ?_
      cases h
      simp only [List.length_append, List.length_cons, List.length_nil]
      omega
    · exact (hs.setReceiving d (x := none) fun _ h => nomatch h).takeWord d _

theorem State.LinesSafe.receiveBytes {s : State} (hs : s.LinesSafe) (d : Degree) (l : List Byte) :
    (l.foldl (State.receiveByte d) s).LinesSafe := by
  induction l generalizing s with
  | nil => exact hs
  | cons b l ih => exact ih (hs.receiveByte d b)

theorem State.LinesSafe.fallIdle {s : State} (hs : s.LinesSafe) (d : Degree) : (s.fallIdle d).LinesSafe := by
  unfold State.fallIdle
  split
  · exact hs.setLine ((Line.discard_safe (hs d)).withReceiving fun _ h => nomatch h)
  · exact hs

theorem execSpanWordReceived_linesSafe {s : State} (hs : s.LinesSafe) (d : Degree) (l : List Byte) (idle : Bool) :
    Answers State.LinesSafe (execSpanWordReceived d l idle s) := by
  have hbytes := hs.receiveBytes d l
  refine .next ?_
  split
  · exact hbytes.fallIdle d
  · exact hbytes

theorem execLineTimerExpiry_linesSafe {s : State} (hs : s.LinesSafe) (d : Degree) :
    Answers State.LinesSafe (execLineTimerExpiry d s) := by
  unfold execLineTimerExpiry
  dsimp only
  split
  · exact .next ((hs.setLine (hs d).lose).lineDecides _ _ _)
  · exact .next hs

theorem State.LinesSafe.takeSetSite {s : State} (hs : s.LinesSafe) (o a b c d : Half) :
    (s.takeSetSite o a b c d).1.LinesSafe := by
  have hset : ∀ (x : Ordinal) (far : Vector Ordinal 4),
      State.LinesSafe { s with words := s.words.setSite x far } := fun x far e => by
    have he : State.line { s with words := s.words.setSite x far } e = { s.line e with expected := look far e } :=
      look_ofFn _ e
    rw [he]
    exact (hs e).withExpected _
  unfold State.takeSetSite
  dsimp only
  split
  · exact hset _ _
  · exact (hset _ _).of_lines ((Keeps.foldl (w := []) (fun t d => State.handLine_keeps t d _) _ _).same .lines (by decide))

theorem State.LinesSafe.softReset {s : State} (hs : s.LinesSafe) : s.softReset.LinesSafe := by
  have hblocks : s.softResetBlocks.LinesSafe := fun d => by
    rw [State.softResetBlocks_line]
    exact Line.softReset_safe (hs d) _
  exact hblocks.of_lines ((State.leaveReset_keeps _).same .lines (by decide))

/-- A reply that has been sent leaves the state's aspects, or it was that of RESET_PART and the soft reset follows. -/
theorem execReplySent_cases (s : State) :
    Answers (fun t => Keeps [] s t ∨ ∃ u, Keeps [] s u ∧ t = u.softReset) (execReplySent s) := by
  unfold execReplySent
  split
  · next r rest _ =>
    have hlink : Keeps [] s (s.setLink { s.link with replies := rest }) := State.setLink_keeps s _ (by rfl)
    refine .next ?_
    dsimp only
    split
    · exact .inl hlink
    · unfold State.handSent
      split
      · split
        · exact .inr ⟨_, hlink, rfl⟩
        · exact .inl (hlink.trans (State.emptyHand_keeps _))
      · exact .inl hlink
  · exact .next (.inl (.refl _ s))

/-- The part as a power-on reset leaves it, before the master-shut input is looked at. -/
def State.powerOnBlocks (s : State) : State :=
  { State.reset with cond := s.cond.powerOn, port := s.port, freeIndex := s.freeIndex, pending := s.pending }

theorem State.powerOn_keeps (s : State) : Keeps [.conditions] s.powerOnBlocks s.powerOn := State.leaveReset_keeps _

theorem exec_linesSafe {s : State} (hs : s.LinesSafe) (i : Instr) : Answers State.LinesSafe (exec i s) := by
  intro t ht
  by_cases hw : .lines ∈ aspectsWritten i
  case neg => exact hs.of_lines ((exec_keeps s i t ht).same .lines hw)
  cases i with
  | powerOnReset =>
    cases ht
    have hblocks : s.powerOnBlocks.LinesSafe := fun d => by
      have hd : s.powerOnBlocks.line d = defaultLine := look_replicate _ d
      rw [hd]
      exact defaultLine_safe
    exact hblocks.of_lines ((State.powerOn_keeps s).same .lines (by decide))
  | replySent =>
    rcases execReplySent_cases s t ht with hk | ⟨u, hk, rfl⟩
    · exact hs.of_lines (hk.same .lines (by decide))
    · exact (hs.of_lines (hk.same .lines (by decide))).softReset
  | spanWordSend d =>
    cases ht
    exact hs.setLine ((hs d).withSent fun l h => by cases h; exact spanWordBytes_length ..)
  | spanWordReceived d l idle => exact execSpanWordReceived_linesSafe hs d l idle t ht
  | lineTimerExpiry d => exact execLineTimerExpiry_linesSafe hs d t ht
  | setSite o a b c d =>
    cases ht
    exact (hs.takeSetSite o a b c d).of_lines ((State.answer_keeps ..).same .lines (by decide))
  | _ => exact absurd hw (of_decide_eq_false rfl)

/-! ### Rings and buffers -/

theorem appendSample_length (l : List Sample) (x : Sample) : (appendSample l x).length ≤ 64 := by
  simp only [appendSample, ringCapacity, List.length_drop, List.length_append, List.length_cons, List.length_nil]
  omega

theorem CaptureSafe.putBuffer {c : CaptureUnit} (h : CaptureSafe c) {b : BufferNo} {x : Buffer} (hx : BufferSafe x)
    (p l : BufferNo) : CaptureSafe { c with buffers := put c.buffers b x, pointer := p, latest := l } := by
  refine ⟨h.rings, fun n => ?_⟩
  rw [look_put]
  split
  · exact hx
  · exact h.buffers n

theorem CaptureSafe.fillBuffer {s : State} (h : CaptureSafe s.capture) (d : Degree) (x : Sample) (b : BufferNo) :
    CaptureSafe (State.fillBuffer d x s b).capture := by
  unfold State.fillBuffer
  split
  · next t hb =>
    have hfilling : t.pre.length ≤ 64 ∧ t.post.length < 64 := by simpa only [hb, BufferSafe] using h.buffers b
    split
    · dsimp only
      split
      · next hlt => exact h.putBuffer (x := .filling { t with post := t.post ++ [x] }) ⟨hfilling.1, hlt⟩ _ _
      · next hge =>
        refine h.putBuffer (x := .complete { t with post := t.post ++ [x] }) ⟨hfilling.1, ?_⟩ _ _
        simp only [ringCapacity, List.length_append, List.length_cons, List.length_nil] at hge ⊢
        omega
    · exact h
  all_goals exact h

theorem CaptureSafe.takeSample {s : State} (h : CaptureSafe s.capture) (d : Degree) (x : Sample) :
    CaptureSafe (s.takeSample d x).capture := by
  have hring : CaptureSafe { s.capture with
      rings := put s.capture.rings d (appendSample (look s.capture.rings d) x) } := by
    refine ⟨fun e => ?_, h.buffers⟩
    rw [look_put]
    split
    · exact appendSample_length ..
    · exact h.rings e
  exact (CaptureSafe.fillBuffer hring d x _).fillBuffer d x _

theorem CaptureSafe.takeTrigger {s : State} (h : CaptureSafe s.capture) (d : Degree) (k : Key) :
    CaptureSafe (s.takeTrigger d k).capture := by
  unfold State.takeTrigger
  split
  · next b _ =>
    exact h.putBuffer (x := .filling { degree := d, key := k, at_ := s.now, pre := look s.capture.rings d, post := [] })
      ⟨h.rings d, Nat.zero_lt_succ 63⟩ _ _
  · exact h

theorem CaptureSafe.takeReleaseCapture {s : State} (h : CaptureSafe s.capture) (b : Byte) :
    CaptureSafe (s.takeReleaseCapture b).1.capture := by
  unfold State.takeReleaseCapture
  split
  · exact h
  · split
    · exact h.putBuffer (x := .empty) trivial _ _
    all_goals exact h

theorem defaultCapture_safe : CaptureSafe defaultCapture := by
  refine ⟨fun d => ?_, fun b => ?_⟩
  · rw [defaultCapture, look_replicate]
    exact Nat.zero_le 64
  · rw [defaultCapture, look_replicate]
    trivial

theorem exec_captureSafe {s : State} (hs : CaptureSafe s.capture) (i : Instr) :
    Answers (fun t => CaptureSafe t.capture) (exec i s) := by
  have hsame : ∀ {u t : State}, CaptureSafe u.capture → Aspect.Same u t .capture → CaptureSafe t.capture :=
    fun hu h => h ▸ hu
  intro t ht
  by_cases hw : .capture ∈ aspectsWritten i
  case neg => exact hsame hs ((exec_keeps s i t ht).same .capture hw)
  cases i with
  | powerOnReset =>
    cases ht
    exact hsame (u := s.powerOnBlocks) defaultCapture_safe ((State.powerOn_keeps s).same .capture (by decide))
  | replySent =>
    rcases execReplySent_cases s t ht with hk | ⟨u, -, rfl⟩
    · exact hsame hs (hk.same .capture (by decide))
    · exact hsame (u := u.softResetBlocks) defaultCapture_safe ((State.leaveReset_keeps _).same .capture (by decide))
  | historySample d =>
    simp only [exec, execHistorySample] at ht
    split at ht
    · cases ht
      refine CaptureSafe.takeSample ?_ d _
      exact hs
    · cases ht; exact hs
  | captureTrigger d =>
    simp only [exec, execCaptureTrigger] at ht
    split at ht
    · cases ht
      refine CaptureSafe.takeTrigger ?_ d _
      exact hs
    · cases ht; exact hs
  | releaseCapture b =>
    cases ht
    exact hsame (hs.takeReleaseCapture b) ((State.answer_keeps ..).same .capture (by decide))
  | _ => exact absurd hw (of_decide_eq_false rfl)

/-! ### The claim -/

theorem State.ClaimSafe.of_claim {s t : State} (hs : s.ClaimSafe) (h : t.claim = s.claim) : t.ClaimSafe :=
  fun c hc => hs c (h ▸ hc)

theorem State.ClaimSafe.endClaim {s : State} (hs : s.ClaimSafe) (c : EndCause) : (s.endClaim c).ClaimSafe := by
  unfold State.endClaim
  split
  · exact fun _ h => nomatch h
  · exact hs

theorem State.ClaimSafe.commit {s : State} (hs : s.ClaimSafe) (m : DegSet) (p : Degree → Reason)
    {f : State → Degree → State} (hf : ∀ s d, Keeps [] s (f s d)) (ok : Byte) : (s.commit m p f ok).1.ClaimSafe := by
  have hend := hs.endClaim .consumed
  unfold State.commit
  dsimp only
  split
  · exact hend
  · split
    · exact hend.of_claim ((Keeps.foldl hf _ _).same .claim (by decide))
    · exact hend

theorem State.ClaimSafe.spanCommit {s : State} (hs : s.ClaimSafe) (n : Byte) (l : List Byte) (p : Degree → Reason)
    {f : State → Degree → State} (hf : ∀ s d, Keeps [] s (f s d)) (ok : Byte) :
    (s.spanCommit n l p f ok).1.ClaimSafe := by
  unfold State.spanCommit
  split
  · exact hs
  · exact hs.commit _ p hf ok

theorem State.ClaimSafe.takeReleaseLatch {s : State} (hs : s.ClaimSafe) (i : Byte) :
    (s.takeReleaseLatch i).1.ClaimSafe := by
  have hr : ∀ (j : SourceNo) (t : State) (_ : Degree), Keeps [] t (t.updateSource Source.takeRelease j) :=
    fun j t _ => State.updateSource_keeps (f := Source.takeRelease) (fun _ => rfl) t j
  unfold State.takeReleaseLatch
  split
  · exact hs
  · next j _ =>
    split
    · exact hs.commit _ _ (hr j) _
    · exact hs.of_claim ((hr j s 0).same .claim (by decide))

theorem State.ClaimSafe.takeNotice {s : State} (hs : s.ClaimSafe) (n : Notice) : (s.takeNotice n).ClaimSafe := by
  unfold State.takeNotice
  split
  · split
    · exact hs.endClaim _
    · exact hs
  · exact hs

/-- A set that a count and a list of bytes name has as many degrees as the list names (R146). -/
theorem NamesDegrees.toList_length {n : Byte} {l : List Byte} {m : DegSet} (h : NamesDegrees n l m) :
    (DegSet.toList m).length = 1 ∨ (DegSet.toList m).length = 2 := by
  obtain ⟨ds, hlen, hnodup, -, -, hmem⟩ := h
  have hperm : (DegSet.toList m).Perm ds := by
    refine (List.perm_ext_iff_of_nodup ((List.nodup_finRange 4).filter _) hnodup).mpr fun d => ?_
    rw [List.mem_filter, ← hmem d]
    exact and_iff_right (List.mem_finRange d)
  rw [hperm.length_eq]
  exact hlen

theorem State.ClaimSafe.takeClaim {s : State} (hs : s.ClaimSafe) (n : Byte) (l : List Byte) :
    (s.takeClaim n l).1.ClaimSafe := by
  unfold State.takeClaim
  split
  · exact hs
  · next m hm =>
    intro c hc
    cases hc
    refine ⟨((degrees?_eq_some ..).mp hm).toList_length, ?_, Nat.le_refl _⟩
    show List.map Recorded.degree (List.map s.numbersNow (DegSet.toList m)) = DegSet.toList m
    rw [List.map_map]
    exact List.map_id _

theorem refuseIllFormed_fst {P : State → Prop} {s : State} {r : State × List Byte} (b : Bool) (hs : P s) (hr : P r.1) :
    P (refuseIllFormed b s r).1 := by
  unfold refuseIllFormed
  split
  · exact hr
  · exact hs

theorem State.ClaimSafe.answer {s : State} (hs : s.ClaimSafe) (i : Instr) (b : List Byte) : (s.answer i b).ClaimSafe :=
  hs.of_claim ((State.answer_keeps s i b).same .claim (by decide))

theorem exec_claimSafe {s : State} (hs : s.ClaimSafe) (i : Instr) : Answers State.ClaimSafe (exec i s) := by
  intro t ht
  by_cases hw : .claim ∈ aspectsWritten i
  case neg => exact hs.of_claim ((exec_keeps s i t ht).same .claim hw)
  cases i with
  | powerOnReset =>
    cases ht
    refine State.ClaimSafe.of_claim (s := s.powerOnBlocks) (fun _ h => nomatch h) ?_
    exact (State.powerOn_keeps s).same .claim (by decide)
  | replySent =>
    rcases execReplySent_cases s t ht with hk | ⟨u, -, rfl⟩
    · exact hs.of_claim (hk.same .claim (by decide))
    · refine State.ClaimSafe.of_claim (s := u.softResetBlocks) (fun _ h => nomatch h) ?_
      exact (State.leaveReset_keeps _).same .claim (by decide)
  | claimNotice n =>
    simp only [exec, execClaimNotice] at ht
    split at ht
    · cases ht; exact State.ClaimSafe.takeNotice (s := s.dropClaimEvent _) hs n
    · cases ht; exact hs
  | claimBreak c =>
    simp only [exec, execClaimBreak] at ht
    split at ht
    · cases ht; exact State.ClaimSafe.endClaim (s := s.dropClaimEvent _) hs _
    · cases ht; exact hs
  | claimLifeExpiry =>
    simp only [exec, execClaimLifeExpiry] at ht
    split at ht
    · cases ht
      split
      · exact hs.endClaim _
      · exact hs
    · cases ht; exact hs
  | releaseLatch i =>
    cases ht
    exact (hs.takeReleaseLatch i).answer _ _
  | resume n l =>
    cases ht
    exact (refuseIllFormed_fst _ hs (hs.spanCommit n l _ (State.release_keeps _) _)).answer _ _
  | unlock n l =>
    cases ht
    exact (refuseIllFormed_fst _ hs (hs.spanCommit n l _ (State.release_keeps _) _)).answer _ _
  | probeNow n m l =>
    cases ht
    exact (refuseIllFormed_fst _ hs (hs.spanCommit n l _ (State.probeManually_keeps _) _)).answer _ _
  | claim n l =>
    cases ht
    exact (refuseIllFormed_fst _ hs (hs.takeClaim n l)).answer _ _
  | _ => exact absurd hw (of_decide_eq_false rfl)

end Sys2Proof.Machine
end

section
/-! SUPPORT. Every command keeps the active condition list safe (R18, R19, R21, R22, R51, R143). -/

namespace Sys2Proof.Machine

theorem State.ConditionsSafe.of_same {s t : State} (hs : s.ConditionsSafe) (h : Aspect.Same s t .conditions) :
    t.ConditionsSafe := by
  obtain ⟨hactive, hsnapshots⟩ := Prod.mk.inj h
  exact ⟨hactive ▸ hs.keys, fun r hr => hs.records r (hactive ▸ hr), fun e he => hs.snapshots e (hsnapshots ▸ he)⟩

theorem State.ConditionsSafe.of_keeps {w : List Aspect} {s t : State} (hs : s.ConditionsSafe) (h : Keeps w s t)
    (hw : .conditions ∉ w) : t.ConditionsSafe :=
  hs.of_same (h.same _ hw)

/-! ### The list -/

theorem State.ConditionsSafe.setActive {s : State} (hs : s.ConditionsSafe) {l : List CondRecord}
    (hk : (l.map CondRecord.key).Nodup) (hr : ∀ r ∈ l, RecordSafe r) : (s.setActive l).ConditionsSafe :=
  ⟨hk, hr, hs.snapshots⟩

/-- The record found under a key is the only one with that key (R18). -/
theorem State.ConditionsSafe.record_unique {s : State} (hs : s.ConditionsSafe) {k : Key} {r x : CondRecord}
    (h : s.record? k = some r) (hx : x ∈ s.cond.active) (hk : x.key = k) : x = r := by
  have hr : r.key = k := by simpa using List.find?_some h
  exact List.inj_on_of_nodup_map hs.keys hx (List.mem_of_find?_eq_some h) (hk.trans hr.symm)

theorem State.ConditionsSafe.updateRecord {s : State} (hs : s.ConditionsSafe) {k : Key} {f : CondRecord → CondRecord}
    (hf : ∀ r ∈ s.cond.active, r.key = k → (f r).key = k ∧ RecordSafe (f r)) :
    (s.updateRecord k f).ConditionsSafe := by
  refine hs.setActive ?_ fun x hx => ?_
  · have hkeys : (s.cond.active.map fun r => if r.key = k then f r else r).map CondRecord.key =
        s.cond.active.map CondRecord.key := by
      rw [List.map_map]
      refine List.map_congr_left fun r hr => ?_
      by_cases h : r.key = k
      · rw [Function.comp_apply, if_pos h, (hf r hr h).1, h]
      · rw [Function.comp_apply, if_neg h]
    rw [hkeys]
    exact hs.keys
  · obtain ⟨r, hr, rfl⟩ := List.mem_map.mp hx
    by_cases h : r.key = k
    · rw [if_pos h]; exact (hf r hr h).2
    · rw [if_neg h]; exact hs.records r hr

/-- A raise of a key that stands in no record adds one (R19). -/
theorem State.ConditionsSafe.append {s : State} (hs : s.ConditionsSafe) {r : CondRecord}
    (hk : s.record? r.key = none) (hr : RecordSafe r) : (s.setActive (s.cond.active ++ [r])).ConditionsSafe := by
  refine hs.setActive ?_ fun x hx => ?_
  · rw [List.map_append, List.nodup_append]
    refine ⟨hs.keys, List.nodup_singleton _, fun a ha b hb hab => ?_⟩
    obtain ⟨x, hx, rfl⟩ := List.mem_map.mp ha
    obtain rfl : b = r.key := by simpa using hb
    have := List.find?_eq_none.mp hk x hx
    simp [hab] at this
  · rcases List.mem_append.mp hx with h | h
    · exact hs.records x h
    · obtain rfl : x = r := by simpa using h
      exact hr

/-- A record leaves the list (R21). -/
theorem State.ConditionsSafe.filter {s : State} (hs : s.ConditionsSafe) (p : CondRecord → Bool) :
    (s.setActive (s.cond.active.filter p)).ConditionsSafe :=
  hs.setActive (hs.keys.sublist (List.filter_sublist.map _)) fun x hx => hs.records x (List.mem_filter.mp hx).1

theorem State.ConditionsSafe.handSnapshot {s : State} (hs : s.ConditionsSafe) {e : SnapshotEvent}
    (he : e.keyed.2.Pairwise (· < ·)) : (s.handSnapshot e).ConditionsSafe := by
  refine ⟨hs.keys, hs.records, fun x hx => ?_⟩
  rcases List.mem_append.mp hx with h | h
  · exact hs.snapshots x h
  · obtain rfl : x = e := by simpa using h
    exact he

/-! ### Raise and clear -/

theorem State.ConditionsSafe.raise {s : State} (hs : s.ConditionsSafe) (k : Key) : (s.raise k).ConditionsSafe := by
  unfold State.raise
  split
  · split
    · refine hs.updateRecord fun r hr hk => ⟨hk, ?_⟩
      exact ⟨(hs.records r hr).pending, fun h => absurd h Bool.false_ne_true, (hs.records r hr).matched⟩
    · exact hs
  · next h =>
    have hadd := hs.append (r := CondRecord.mk k s.now true none [] 0) h
      ⟨fun _ => ⟨rfl, rfl⟩, fun h => absurd h Bool.false_ne_true, .nil⟩
    refine hadd.of_keeps (w := []) ?_ List.not_mem_nil
    exact ((State.setQueue_keeps _ _).trans (State.touch_keeps _ _)).trans (State.handNotice_keeps _ _)

theorem State.ConditionsSafe.takeWaitingRaise {s : State} (hs : s.ConditionsSafe) (k : Key) :
    (s.takeWaitingRaise k).ConditionsSafe := by
  unfold State.takeWaitingRaise
  split
  · split
    · exact (hs.of_keeps (State.setContact_keeps s _ _ (by rfl)) List.not_mem_nil).raise _
    · exact hs
  all_goals exact hs

theorem State.ConditionsSafe.takeClear {s : State} (hs : s.ConditionsSafe) (r : CondRecord) (c : ClearCause) :
    (s.takeClear r c).ConditionsSafe := by
  unfold State.takeClear
  refine State.ConditionsSafe.takeWaitingRaise ?_ _
  refine (hs.filter fun x => x.key != r.key).of_keeps (w := []) ?_ List.not_mem_nil
  exact ((((State.handReport_keeps _ _ _).trans (State.handGrant_keeps _ _)).trans (State.handSpan_keeps _ _)).trans
    (State.touch_keeps _ _)).trans (State.handNotice_keeps _ _)

theorem State.ConditionsSafe.clearDue {s : State} (hs : s.ConditionsSafe) (k : Key) (c : ClearCause) :
    (s.clearDue k c).ConditionsSafe := by
  unfold State.clearDue
  split
  · exact hs
  · next r h =>
    split
    · next hpending =>
      refine hs.updateRecord fun x hx hk => ⟨hk, ?_⟩
      obtain rfl := hs.record_unique h hx hk
      exact ⟨(hs.records x hx).pending, fun _ => hpending, (hs.records x hx).matched⟩
    · exact hs.takeClear r c

theorem State.ConditionsSafe.decided {s : State} (hs : s.ConditionsSafe) (k : Key) (o : Option Bool) :
    (s.decided k o).ConditionsSafe := by
  unfold State.decided
  split
  · exact hs.raise k
  · exact hs.clearDue k _
  · exact hs

theorem State.ConditionsSafe.lineDecides {s : State} (hs : s.ConditionsSafe) (k : Key) (a b : Bool) :
    (s.lineDecides k a b).ConditionsSafe := by
  unfold State.lineDecides
  split
  · exact hs.raise k
  · split
    · exact hs.clearDue k _
    · exact hs

/-! ### Qualifiers, contacts, snapshots -/

theorem State.ConditionsSafe.feedDark {s : State} (hs : s.ConditionsSafe) (d : Degree) (v : Int) :
    (s.feedDark d v).ConditionsSafe := by
  unfold State.feedDark
  refine State.ConditionsSafe.decided ?_ _ _
  exact hs.of_same rfl

theorem State.ConditionsSafe.feedReflect {s : State} (hs : s.ConditionsSafe) (d : Degree) (x : Ratio) :
    (s.feedReflect d x).ConditionsSafe := by
  unfold State.feedReflect
  refine State.ConditionsSafe.decided ?_ _ _
  exact hs.of_same rfl

theorem State.ConditionsSafe.feedPump {s : State} (hs : s.ConditionsSafe) (d : Degree) (v : Int) :
    (s.feedPump d v).ConditionsSafe := by
  unfold State.feedPump
  refine State.ConditionsSafe.decided ?_ _ _
  exact hs.of_same rfl

theorem State.ConditionsSafe.feedFault {s : State} (hs : s.ConditionsSafe) (c : ChannelNo) (b : Bool) :
    (s.feedFault c b).ConditionsSafe := by
  unfold State.feedFault
  refine State.ConditionsSafe.decided ?_ _ _
  exact hs.of_same rfl

theorem State.ConditionsSafe.distribute {s : State} (hs : s.ConditionsSafe) (c : ChannelNo) (v : Int) :
    (s.distribute c v).ConditionsSafe := by
  unfold State.distribute
  dsimp only
  split
  · exact (hs.feedDark _ v).of_same rfl
  · exact hs
  · refine State.ConditionsSafe.feedReflect ?_ _ _
    exact hs.of_same rfl
  · exact hs.feedPump _ v

theorem State.ConditionsSafe.contactRaise {s : State} (hs : s.ConditionsSafe) (n : ContactNo) (k : Key) :
    (s.contactRaise n k).ConditionsSafe := by
  unfold State.contactRaise
  split
  · split
    · exact hs.of_same rfl
    · exact hs.raise k
  · exact hs.raise k

theorem State.ConditionsSafe.contactClear {s : State} (hs : s.ConditionsSafe) (n : ContactNo) (c : ClearCause) :
    (s.contactClear n c).ConditionsSafe := by
  unfold State.contactClear
  split
  · exact hs.of_same rfl
  · split
    · split
      · exact hs
      · exact hs.clearDue _ c
    · exact hs

theorem State.ConditionsSafe.acceptContact {s : State} (hs : s.ConditionsSafe) (k : ContactNo) :
    (s.acceptContact k).ConditionsSafe := by
  have hset : (s.setContact k { s.contact k with timer := none, accepted := (s.contact k).readsOpen }).ConditionsSafe :=
    hs.of_same rfl
  unfold State.acceptContact
  dsimp only
  split
  · exact hset.contactRaise k _
  · exact hset
  · exact hset.contactClear k _

theorem State.ConditionsSafe.forceClear {s : State} (hs : s.ConditionsSafe) (d : Degree) :
    (s.forceClear d).ConditionsSafe := by
  unfold State.forceClear
  dsimp only
  split
  · refine State.ConditionsSafe.clearDue ?_ _ _
    exact hs.of_same rfl
  · exact hs.of_same rfl

theorem State.ConditionsSafe.takeSetContact {s : State} (hs : s.ConditionsSafe) (k u l d t : Byte) :
    (s.takeSetContact k u l d t).1.ConditionsSafe := by
  unfold State.takeSetContact
  split
  · exact (hs.contactClear _ _).of_same rfl
  · exact hs

/-- The snapshot of a raise is written over a pending record, which it makes a safe one that is not pending (R20, R22). -/
theorem State.ConditionsSafe.writeSnapshot {s : State} (hs : s.ConditionsSafe) (k : Key) {m : List EntryNo}
    (hm : m.Pairwise (· < ·)) (w : DegSet) : (s.writeSnapshot k m w).ConditionsSafe := by
  unfold State.writeSnapshot
  split
  · exact hs
  · next r h =>
    have hr : r.key = k := by simpa using List.find?_some h
    have hupdate : (s.updateRecord k fun _ =>
        { r with pending := false, clearDue := none, matched := m, withheld := w }).ConditionsSafe :=
      hs.updateRecord fun x _ _ =>
        ⟨hr, fun h => absurd h Bool.false_ne_true, fun h => absurd h Bool.false_ne_true, hm⟩
    have hwritten := (hupdate.of_keeps (State.handReport_keeps _ (.raised k r.raisedAt m.length (primaryOf m)) false)
      List.not_mem_nil).of_keeps (State.handReexaminations_keeps _ w) List.not_mem_nil
    dsimp only
    split
    · exact hwritten.takeClear _ _
    · exact hwritten

theorem State.ConditionsSafe.rewriteSnapshot {s : State} (hs : s.ConditionsSafe) (k : Key) {m : List EntryNo}
    (hm : m.Pairwise (· < ·)) (w : DegSet) : (s.rewriteSnapshot k m w).ConditionsSafe := by
  unfold State.rewriteSnapshot
  split
  · exact hs
  · next r h =>
    split
    · exact hs
    · next hpending =>
      have hupdate : (s.updateRecord k fun x => { x with matched := m, withheld := w }).ConditionsSafe := by
        refine hs.updateRecord fun x hx hk => ⟨hk, ?_⟩
        obtain rfl := hs.record_unique h hx hk
        exact ⟨fun h => absurd h hpending, fun h => absurd ((hs.records x hx).clearDue h) hpending, hm⟩
      exact hupdate.of_keeps (State.handReexaminations_keeps _ _) List.not_mem_nil

/-- A snapshot taken out of transit is in ascending order, and so are the others. -/
theorem State.ConditionsSafe.dropSnapshot {s : State} (hs : s.ConditionsSafe) {e : SnapshotEvent}
    {l : List SnapshotEvent} (h : s.transit.snapshots = e :: l) :
    e.keyed.2.Pairwise (· < ·) ∧
      State.ConditionsSafe { s with transit := { s.transit with snapshots := l } } :=
  ⟨hs.snapshots e (h ▸ List.mem_cons_self), hs.keys, hs.records,
    fun x hx => hs.snapshots x (h ▸ List.mem_cons_of_mem _ hx)⟩

theorem execSnapshotWrite_conditionsSafe {s : State} (hs : s.ConditionsSafe) :
    Answers State.ConditionsSafe (execSnapshotWrite s) := by
  unfold execSnapshotWrite
  split
  · next h =>
    obtain ⟨hm, hrest⟩ := hs.dropSnapshot h
    exact .next (hrest.writeSnapshot _ hm _)
  all_goals exact .next hs

theorem execRewrittenSnapshotWrite_conditionsSafe {s : State} (hs : s.ConditionsSafe) :
    Answers State.ConditionsSafe (execRewrittenSnapshotWrite s) := by
  unfold execRewrittenSnapshotWrite
  split
  · next h =>
    obtain ⟨hm, hrest⟩ := hs.dropSnapshot h
    exact .next (hrest.rewriteSnapshot _ hm _)
  all_goals exact .next hs

/-! ### The hazard map's snapshots -/

theorem State.matchedList_pairwise (s : State) (k : Key) : (s.matchedList k).Pairwise (· < ·) :=
  List.Pairwise.filter _ (List.pairwise_lt_finRange 64)

theorem State.ConditionsSafe.lookUp {s : State} (hs : s.ConditionsSafe) (k : Key) : (s.lookUp k).ConditionsSafe := by
  refine State.ConditionsSafe.handSnapshot (hs.of_keeps (w := []) ?_ List.not_mem_nil) (s.matchedList_pairwise k)
  exact ((State.handGrantAll_keeps s _).trans (State.handSpanAll_keeps _ _)).trans (State.handSpanAll_keeps _ _)

theorem State.ConditionsSafe.reevaluate {s : State} (hs : s.ConditionsSafe) : s.reevaluate.ConditionsSafe := by
  have hfold : ∀ (l : List CondRecord) (t : State), t.ConditionsSafe →
      (l.foldl (fun t r => t.handSnapshot (s.rewritten r)) t).ConditionsSafe := by
    intro l
    induction l with
    | nil => exact fun _ ht => ht
    | cons r l ih => exact fun t ht => ih _ (ht.handSnapshot (s.matchedList_pairwise r.key))
  refine hfold _ _ (hs.of_keeps (w := []) ?_ List.not_mem_nil)
  exact ((State.handGrantAll_keeps s _).trans (State.handGrantAll_keeps _ _)).trans (State.handSpanAll_keeps _ _)

/-! ### What the span word unit decides -/

theorem State.ConditionsSafe.acceptWord {s : State} (hs : s.ConditionsSafe) (d : Degree) (w : FarWord) :
    (s.acceptWord d w).ConditionsSafe := by
  have hset : (s.setLine d ((s.line d).accept (s.limits d).lineTimeout w)).ConditionsSafe := hs.of_same rfl
  exact (((hset.lineDecides _ _ _).lineDecides _ _ _).lineDecides _ _ _).of_same rfl

theorem State.ConditionsSafe.recoverWord {s : State} (hs : s.ConditionsSafe) (d : Degree) (w : FarWord) :
    (s.recoverWord d w).ConditionsSafe := by
  unfold State.recoverWord
  dsimp only
  split
  · exact hs.of_same rfl
  · refine State.ConditionsSafe.acceptWord (State.ConditionsSafe.clearDue ?_ _ _) d w
    exact hs.of_same rfl

theorem State.ConditionsSafe.mismatchWord {s : State} (hs : s.ConditionsSafe) (d : Degree) :
    (s.mismatchWord d).ConditionsSafe := by
  unfold State.mismatchWord
  dsimp only
  split
  · exact hs.of_same rfl
  · refine State.ConditionsSafe.lineDecides ?_ _ _ _
    exact hs.of_same rfl

theorem State.ConditionsSafe.takeWord {s : State} (hs : s.ConditionsSafe) (d : Degree) (l : List Byte) :
    (s.takeWord d l).ConditionsSafe := by
  unfold State.takeWord
  split
  · exact hs.of_same rfl
  · split
    · exact hs.mismatchWord d
    · next w _ _ =>
      have hcount : (s.setLine d { s.line d with accepted := countTo65535 (s.line d).accepted }).ConditionsSafe :=
        hs.of_same rfl
      unfold State.matchWord
      dsimp only
      split
      · exact hcount.recoverWord d w
      · exact hcount.acceptWord d w

theorem State.ConditionsSafe.receiveByte {s : State} (hs : s.ConditionsSafe) (d : Degree) (b : Byte) :
    (State.receiveByte d s b).ConditionsSafe := by
  unfold State.receiveByte
  split
  · split
    · exact hs.of_same rfl
    · exact hs
  · split
    · exact hs.of_same rfl
    · have hclosed : (s.setReceiving d none).ConditionsSafe := hs.of_same rfl
      exact hclosed.takeWord d _

theorem State.ConditionsSafe.receiveBytes {s : State} (hs : s.ConditionsSafe) (d : Degree) (l : List Byte) :
    (l.foldl (State.receiveByte d) s).ConditionsSafe := by
  induction l generalizing s with
  | nil => exact hs
  | cons b l ih => exact ih (hs.receiveByte d b)

theorem execSpanWordReceived_conditionsSafe {s : State} (hs : s.ConditionsSafe) (d : Degree) (l : List Byte)
    (idle : Bool) : Answers State.ConditionsSafe (execSpanWordReceived d l idle s) := by
  have hbytes := hs.receiveBytes d l
  refine .next ?_
  split
  · unfold State.fallIdle
    split
    · exact hbytes.of_same rfl
    · exact hbytes
  · exact hbytes

/-! ### The resets, and all commands -/

theorem State.ConditionsSafe.leaveReset {s : State} (hs : s.ConditionsSafe) : s.leaveReset.ConditionsSafe := by
  unfold State.leaveReset
  split
  · refine State.ConditionsSafe.raise ?_ _
    exact hs.of_same rfl
  · exact hs

/-- A part whose list and whose snapshots in transit are empty. -/
theorem State.conditionsSafe_of_empty {s : State} (ha : s.cond.active = []) (hs : s.transit.snapshots = []) :
    s.ConditionsSafe :=
  ⟨ha ▸ List.nodup_nil, fun _ hr => absurd (ha ▸ hr) List.not_mem_nil, fun _ he => absurd (hs ▸ he) List.not_mem_nil⟩

theorem exec_conditionsSafe {s : State} (hs : s.ConditionsSafe) (i : Instr) :
    Answers State.ConditionsSafe (exec i s) := by
  intro t ht
  by_cases hw : .conditions ∈ aspectsWritten i
  case neg => exact hs.of_keeps (exec_keeps s i t ht) hw
  cases i with
  | powerOnReset =>
    cases ht
    exact State.ConditionsSafe.leaveReset (s := s.powerOnBlocks) (State.conditionsSafe_of_empty rfl rfl)
  | replySent =>
    rcases execReplySent_cases s t ht with hk | ⟨u, -, rfl⟩
    · exact hs.of_keeps hk List.not_mem_nil
    · exact State.ConditionsSafe.leaveReset (s := u.softResetBlocks) (State.conditionsSafe_of_empty rfl rfl)
  | monitorReading c code valid =>
    cases ht
    refine State.ConditionsSafe.distribute (State.ConditionsSafe.feedFault ?_ _ _) _ _
    exact hs.of_same rfl
  | spanWordReceived d l idle => exact execSpanWordReceived_conditionsSafe hs d l idle t ht
  | lineTimerExpiry d =>
    simp only [exec, execLineTimerExpiry] at ht
    split at ht
    · cases ht
      refine State.ConditionsSafe.lineDecides ?_ _ _ _
      exact hs.of_same rfl
    · cases ht; exact hs
  | lookup =>
    simp only [exec, execLookup] at ht
    split at ht
    · cases ht
      refine State.ConditionsSafe.lookUp ?_ _
      exact hs.of_same rfl
    all_goals cases ht; exact hs
  | reevaluation =>
    simp only [exec, execReevaluation] at ht
    split at ht
    · cases ht
      refine State.ConditionsSafe.reevaluate ?_
      exact hs.of_same rfl
    all_goals cases ht; exact hs
  | snapshotWrite => exact execSnapshotWrite_conditionsSafe hs t ht
  | rewrittenSnapshotWrite => exact execRewrittenSnapshotWrite_conditionsSafe hs t ht
  | forcedClear d =>
    simp only [exec, execForcedClear] at ht
    split at ht
    · cases ht
      refine State.ConditionsSafe.forceClear ?_ d
      exact hs.of_same rfl
    · cases ht; exact hs
  | debounceExpiry k =>
    simp only [exec, execDebounceExpiry] at ht
    split at ht
    · cases ht; exact hs.acceptContact k
    · cases ht; exact hs
  | masterShutAssertion =>
    cases ht
    have hset : (s.setShut { asserted := true, raised := true, delay := none }).ConditionsSafe := hs.of_same rfl
    split
    · exact hset
    · exact hset.raise _
  | clearDelayExpiry =>
    simp only [exec, execClearDelayExpiry] at ht
    split at ht
    · cases ht
      refine State.ConditionsSafe.clearDue ?_ _ _
      exact hs.of_same rfl
    · cases ht; exact hs
  | setContact k u l d b =>
    cases ht
    exact (hs.takeSetContact k u l d b).of_keeps (State.answer_keeps ..) List.not_mem_nil
  | _ => exact absurd hw (of_decide_eq_false rfl)

end Sys2Proof.Machine
end

section
/-! SUPPORT and O60. Every command keeps every configured and measured value in its range (R4, R7, R12, R30, R59, R85,
R134), aspect by aspect; and the five invariants of the records are each kept by every step. -/

namespace Sys2Proof.Machine

/-- The aspects whose values have ranges. -/
def Aspect.ranged : Aspect → Bool
  | .calib | .readings | .contacts | .setpoints | .spanConfig | .profiles => true
  | .entries | .site | .lines | .selector | .notify | .conditions | .capture | .claim => false

/-- The values of an aspect lie in the ranges their rules give. -/
def Aspect.InRange (t : State) : Aspect → Prop
  | .calib => ∀ c, Between 0 255 (look t.front.calib c).dark ∧ Within (-5000) 5000 (look t.front.calib c).gain
  | .readings =>
    (∀ c, Within (-6000) 3000 (look t.front.last c).value) ∧
      (∀ d v, look t.front.heldOut d = some v → Within (-6000) 3000 v) ∧
      ∀ d, Within (-9000) 9000 (look t.front.ratio d).r
  | .contacts => ∀ k, Between 1 64 (t.contact k).debounce
  | .setpoints => ∀ i, Within (-1000) 3000 (t.source i).full ∧ Within (-1000) 3000 (t.source i).reduced ∧
      Within (-1000) 3000 (t.source i).probe
  | .spanConfig => ∀ d, SpanConfigSafe (t.span d).config
  | .profiles => ∀ n d, LimitsSafe (look (look t.store.profiles n).limits d)
  | .entries | .site | .lines | .selector | .notify | .conditions | .capture | .claim => True

theorem State.rangesSafe_iff (t : State) : t.RangesSafe ↔ ∀ p, Aspect.InRange t p := by
  constructor
  · intro h p
    cases p with
    | calib => exact h.calib
    | readings => exact ⟨h.readings, h.heldOut, h.ratio⟩
    | contacts => exact h.debounce
    | setpoints => exact h.setpoints
    | spanConfig => exact h.spans
    | profiles => exact h.profiles
    | _ => trivial
  · intro h
    obtain ⟨hlast, hheld, hratio⟩ := h .readings
    exact ⟨h .calib, hlast, hheld, hratio, h .contacts, h .setpoints, h .spanConfig, h .profiles⟩

theorem Aspect.InRange.of_not_ranged (t : State) {p : Aspect} (h : p.ranged = false) : Aspect.InRange t p := by
  cases p <;> trivial

theorem Aspect.InRange.of_same {s t : State} {p : Aspect} (h : Aspect.Same s t p) (hp : Aspect.InRange s p) :
    Aspect.InRange t p := by
  cases p with
  | calib => exact fun c => h.symm ▸ hp c
  | readings =>
    obtain ⟨hlast, hpair⟩ := Prod.mk.inj h
    obtain ⟨hheld, hratio⟩ := Prod.mk.inj hpair
    exact ⟨fun c => hlast.symm ▸ hp.1 c, fun d v hv => hp.2.1 d v (hheld ▸ hv), fun d => hratio.symm ▸ hp.2.2 d⟩
  | contacts => exact fun k => (h.contact k).2.2.2.symm ▸ hp k
  | setpoints =>
    intro i
    obtain ⟨-, hfull, hreduced, hprobe⟩ := h.source i
    rw [hfull, hreduced, hprobe]
    exact hp i
  | spanConfig => exact fun d => (congrFun h d).symm ▸ hp d
  | profiles => exact fun n d => h.symm ▸ hp n d
  | _ => trivial

/-- A step leaves every range if what it writes comes to lie in range. -/
theorem State.RangesSafe.of_keeps {w : List Aspect} {s t : State} (hs : s.RangesSafe) (hk : Keeps w s t)
    (hw : ∀ p ∈ w, Aspect.InRange t p) : t.RangesSafe := by
  refine t.rangesSafe_iff.mpr fun p => ?_
  by_cases hp : p ∈ w
  · exact hw p hp
  · exact (s.rangesSafe_iff.mp hs p).of_same (hk.same p hp)

/-- A step that writes only aspects without ranges. -/
theorem State.RangesSafe.of_unranged {w : List Aspect} {s t : State} (hs : s.RangesSafe) (hk : Keeps w s t)
    (hw : w.all (fun p => !p.ranged) = true) : t.RangesSafe :=
  hs.of_keeps hk fun p hp => .of_not_ranged t (by simpa using List.all_eq_true.mp hw p hp)

/-! ### Clamped values -/

theorem within_clampInt {lo hi : Int} (h : lo ≤ hi) (v : Int) : Within lo hi (clampInt lo hi v) :=
  ⟨le_max_left .., max_le h (min_le_left ..)⟩

theorem between_clampNat {lo hi : Nat} (h : lo ≤ hi) (n : Nat) : Between lo hi (clampNat lo hi n) :=
  ⟨le_max_left .., max_le h (min_le_left ..)⟩

theorem clampSpanConfig_safe (c : RawSpanConfig) : SpanConfigSafe (clampSpanConfig c) where
  hazardLimit := within_clampInt (by decide) _
  restartInterval := between_clampNat (by decide) _
  probeTime := between_clampNat (by decide) _
  probeLimit := between_clampNat (by decide) _
  settleTime := between_clampNat (by decide) _
  rampDepth := between_clampNat (by decide) _
  rampStep := between_clampNat (by decide) _
  rampInterval := between_clampNat (by decide) _

theorem clampLimits_safe (l : RawLimits) (a : Bool) : LimitsSafe (clampLimits l a) where
  darkLevel := within_clampInt (by decide) _
  darkHyst := within_clampInt (by decide) _
  darkRaise := between_clampNat (by decide) _
  darkClear := between_clampNat (by decide) _
  reflectLimit := within_clampInt (by decide) _
  reflectHyst := within_clampInt (by decide) _
  reflectRaise := between_clampNat (by decide) _
  reflectClear := between_clampNat (by decide) _
  outFloor := within_clampInt (by decide) _
  pumpLimit := within_clampInt (by decide) _
  pumpHyst := within_clampInt (by decide) _
  pumpRaise := between_clampNat (by decide) _
  pumpClear := between_clampNat (by decide) _
  lineTimeout := between_clampNat (by decide) _

/-! ### The powers that a reading leaves -/

theorem convert_within (k : Calibration) (code : BitVec 12) : Within (-6000) 3000 (convert k code) := by
  unfold convert
  split
  · exact ⟨by decide, by decide⟩
  · exact within_clampInt (by decide) _

theorem substitute_within {held : Option Int} (h : ∀ v, held = some v → Within (-6000) 3000 v) (r : Role) :
    Within (-6000) 3000 (substitute held r) := by
  cases r with
  | out =>
    cases held with
    | none => exact ⟨by decide, by decide⟩
    | some v => exact h v rfl
  | inn => exact (⟨by decide, by decide⟩ : Within (-6000) 3000 (-6000))
  | _ => exact (⟨by decide, by decide⟩ : Within (-6000) 3000 3000)

theorem State.readingAt_within {s : State} (hs : s.RangesSafe) (c : ChannelNo) (code : BitVec 12) (valid : Bool) :
    Within (-6000) 3000 (s.readingAt c code valid).value := by
  unfold State.readingAt readingOf
  dsimp only
  split
  · exact convert_within _ _
  · exact substitute_within (hs.heldOut _) _

theorem Within.ratio {x y : Int} (hx : Within (-6000) 3000 x) (hy : Within (-6000) 3000 y) :
    Within (-9000) 9000 (x - y) := by
  unfold Within at *
  omega

theorem FrontEnd.store_inRange {s : State} (hs : s.RangesSafe) (c : ChannelNo) {r : Reading}
    (hr : Within (-6000) 3000 r.value) : Aspect.InRange { s with front := s.front.store c r } .readings := by
  refine ⟨fun e => ?_, fun d v => ?_, hs.ratio⟩
  · show Within _ _ (look (put _ c r) e).value
    rw [look_put]
    split
    · exact hr
    · exact hs.readings e
  · show look (if _ then _ else _) d = some v → _
    split
    · rw [look_put]
      split
      · exact fun h => Option.some.inj h ▸ hr
      · exact hs.heldOut d v
    · exact hs.heldOut d v

theorem State.RangesSafe.distribute {s : State} (hs : s.RangesSafe) (c : ChannelNo) {v : Int}
    (hv : Within (-6000) 3000 v) : (s.distribute c v).RangesSafe := by
  unfold State.distribute
  dsimp only
  split
  · exact (hs.of_unranged (State.feedDark_keeps s _ v) rfl).of_unranged (w := []) ⟨fun p _ => by cases p <;> rfl⟩ rfl
  · exact hs
  · refine State.RangesSafe.of_unranged ?_ (State.feedReflect_keeps _ _ _) rfl
    refine hs.of_keeps (State.front_keeps s _ (by rfl)) fun p hp => ?_
    rcases List.mem_pair.mp hp with rfl | rfl
    · refine ⟨hs.readings, hs.heldOut, fun d => ?_⟩
      rw [look_put]
      split
      · exact hv.ratio (hs.readings _)
      · exact hs.ratio d
    · trivial
  · exact hs.of_unranged (State.feedPump_keeps s _ v) rfl

theorem execMonitorReading_rangesSafe {s : State} (hs : s.RangesSafe) (c : ChannelNo) (code : BitVec 12)
    (valid : Bool) : Answers State.RangesSafe (execMonitorReading c code valid s) := by
  have hr := State.readingAt_within hs c code valid
  have hstore : State.RangesSafe { s with front := s.front.store c (s.readingAt c code valid) } := by
    refine hs.of_keeps (State.front_keeps s _ (by rfl)) fun p hp => ?_
    rcases List.mem_pair.mp hp with rfl | rfl
    · exact FrontEnd.store_inRange hs c hr
    · trivial
  exact .next ((hstore.of_unranged (State.feedFault_keeps _ c _) rfl).distribute c hr)

/-! ### What the configuring requests store -/

theorem State.RangesSafe.takeSetChannel {s : State} (hs : s.RangesSafe) (c : Byte) (d g : Half) :
    (s.takeSetChannel c d g).1.RangesSafe := by
  refine hs.of_keeps (State.takeSetChannel_keeps s c d g) (List.forall_mem_singleton.mpr ?_)
  unfold State.takeSetChannel
  split
  · exact hs.calib
  · intro e
    dsimp only
    rw [look_put]
    split
    · exact ⟨between_clampNat (by decide) _, within_clampInt (by decide) _⟩
    · exact hs.calib e

theorem Contact.reconfigure_debounce (c : Contact) (u : ContactUse) (l : Level) (d : Option Degree) (n : Nat) :
    (c.reconfigure u l d n).debounce = n := by
  unfold Contact.reconfigure
  dsimp only
  split <;> rfl

theorem State.RangesSafe.takeSetContact {s : State} (hs : s.RangesSafe) (k u l d t : Byte) :
    (s.takeSetContact k u l d t).1.RangesSafe := by
  unfold State.takeSetContact
  split
  · next k u l d _ _ _ _ =>
    have hclear := hs.of_unranged (State.contactClear_keeps s k .reconfigured) rfl
    refine hclear.of_keeps (State.setContact_writes _ k _) (List.forall_mem_singleton.mpr fun n => ?_)
    rw [State.contact_setContact]
    split
    · rw [Contact.reconfigure_debounce]
      exact between_clampNat (by decide) _
    · exact hclear.debounce n
  · exact hs

theorem clampSetpoint_within (v : Int) : Within (-1000) 3000 (clampSetpoint v) := within_clampInt (by decide) v

/-- The probe setpoint is bounded by a hazard limit, which is itself above the setpoints' lower bound (R62, R85). -/
theorem State.probeLimitFor_within {s : State} (hs : s.RangesSafe) (e : Exposure) (v : Int) :
    Within (-1000) 3000 (s.probeLimitFor e (clampSetpoint v)) := by
  have hv := clampSetpoint_within v
  unfold State.probeLimitFor
  split
  · next d _ =>
    have hlimit := (hs.spans d).hazardLimit
    exact ⟨le_min hv.1 hlimit.1, (min_le_left ..).trans hv.2⟩
  · exact hv

theorem State.applyFloors_settings (s : State) (x : Source) : (s.applyFloors x).settings = x.settings := by
  unfold State.applyFloors
  generalize s.cond.active = l
  induction l generalizing x with
  | nil => rfl
  | cons r l ih =>
    rw [List.foldl_cons, ih]
    split
    · exact Source.takeOrder_settings ..
    · rfl

theorem Source.within_of_settings {x y : Source} (h : x.settings = y.settings)
    (hy : Within (-1000) 3000 y.full ∧ Within (-1000) 3000 y.reduced ∧ Within (-1000) 3000 y.probe) :
    Within (-1000) 3000 x.full ∧ Within (-1000) 3000 x.reduced ∧ Within (-1000) 3000 x.probe := by
  simp only [Source.settings, Prod.mk.injEq] at h
  obtain ⟨-, hfull, hreduced, hprobe⟩ := h
  rw [hfull, hreduced, hprobe]
  exact hy

theorem State.RangesSafe.setSource {s : State} (hs : s.RangesSafe) {i : SourceNo} {x : Source}
    (hx : Within (-1000) 3000 x.full ∧ Within (-1000) 3000 x.reduced ∧ Within (-1000) 3000 x.probe) :
    (s.setSource i x).RangesSafe := by
  refine hs.of_keeps (State.setSource_writes s i x) (List.forall_mem_singleton.mpr fun j => ?_)
  rw [State.source_setSource]
  split
  · exact hx
  · exact hs.setpoints j

theorem State.RangesSafe.takeSetSource {s : State} (hs : s.RangesSafe) (i e d : Byte) (f r p : Half) :
    (s.takeSetSource i e d f r p).1.RangesSafe := by
  unfold State.takeSetSource
  split
  · next i e _ _ =>
    refine State.RangesSafe.of_unranged (hs.setSource (i := i) ?_) (State.recompute_keeps false _ i) rfl
    split
    · exact ⟨clampSetpoint_within _, clampSetpoint_within _, State.probeLimitFor_within hs e _⟩
    · exact Source.within_of_settings (State.applyFloors_settings ..)
        ⟨clampSetpoint_within _, clampSetpoint_within _, State.probeLimitFor_within hs e _⟩
  · exact hs

theorem State.RangesSafe.takeSetSpan {s : State} (hs : s.RangesSafe) (d : Byte) (c : RawSpanConfig) :
    (s.takeSetSpan d c).1.RangesSafe := by
  unfold State.takeSetSpan
  split
  · exact hs
  · next d _ =>
    refine State.RangesSafe.of_unranged (hs.of_keeps (State.setSpan_writes s d _)
      (List.forall_mem_singleton.mpr fun e => ?_)) (State.recomputeAll_keeps false _ _) rfl
    rw [State.span_setSpan]
    split
    · exact clampSpanConfig_safe c
    · exact hs.spans e

theorem State.RangesSafe.takeSetProfile {s : State} (hs : s.RangesSafe) (p d : Byte) (l : RawLimits) (a m : Byte) :
    (s.takeSetProfile p d l a m).1.RangesSafe := by
  refine hs.of_keeps (State.takeSetProfile_keeps s p d l a m) (List.forall_mem_singleton.mpr ?_)
  unfold State.takeSetProfile
  split
  · next p d a m _ _ _ _ =>
    intro n e
    dsimp only [ProfileStore.write]
    rw [look_put]
    split
    · rw [look_put]
      split
      · exact clampLimits_safe l a
      · exact hs.profiles p e
    · exact hs.profiles n e
  · exact hs.profiles

/-! ### The resets, and all commands -/

theorem defaultLimits_inRange (b : Bool) : LimitsSafe (defaultLimits b) := by
  constructor <;> exact ⟨by decide +revert, by decide +revert⟩

theorem defaultSpanConfig_safe : SpanConfigSafe defaultSpanConfig := by
  constructor <;> exact ⟨by decide, by decide⟩

/-- The readings of a part that has taken none (R9, R10, R12). -/
theorem inRange_noReadings {t : State} (hl : t.front.last = defaultFrontEnd.last)
    (hh : t.front.heldOut = defaultFrontEnd.heldOut) (hr : t.front.ratio = defaultFrontEnd.ratio) :
    Aspect.InRange t .readings := by
  refine ⟨fun c => ?_, fun d v hv => ?_, fun d => ?_⟩
  · rw [hl, defaultFrontEnd, look_replicate]
    exact ⟨by decide, by decide⟩
  · rw [hh, defaultFrontEnd, look_replicate] at hv
    cases hv
  · rw [hr, defaultFrontEnd, look_replicate]
    exact ⟨by decide, by decide⟩

theorem State.powerOnBlocks_rangesSafe (s : State) : s.powerOnBlocks.RangesSafe := by
  refine (State.rangesSafe_iff _).mpr fun p => ?_
  cases p with
  | calib =>
    intro c
    have hc : look s.powerOnBlocks.front.calib c = defaultCalibration := look_replicate _ c
    rw [hc]
    exact ⟨⟨by decide, by decide⟩, by decide, by decide⟩
  | readings => exact inRange_noReadings rfl rfl rfl
  | contacts =>
    intro k
    have hk : (s.powerOnBlocks.contact k).settings = defaultContact.settings :=
      (congrArg Contact.settings (look_ofFn _ k)).trans (Contact.leaveReset_settings _)
    have hdebounce : (s.powerOnBlocks.contact k).debounce = 20 := congrArg (fun x => x.2.2.2) hk
    rw [hdebounce]
    exact ⟨by decide, by decide⟩
  | setpoints =>
    intro i
    have hi : s.powerOnBlocks.source i = defaultSource := look_replicate _ i
    rw [hi]
    exact ⟨⟨by decide, by decide⟩, ⟨by decide, by decide⟩, by decide, by decide⟩
  | spanConfig =>
    intro d
    have hd : s.powerOnBlocks.span d = defaultSpan := look_replicate _ d
    rw [hd]
    exact defaultSpanConfig_safe
  | profiles =>
    intro n d
    have hn : ∀ n d, look (look defaultStore.profiles n).limits d = defaultLimits (decide (n = 0)) := by decide
    show LimitsSafe (look (look defaultStore.profiles n).limits d)
    rw [hn]
    exact defaultLimits_inRange _
  | _ => trivial

theorem State.RangesSafe.softReset {s : State} (hs : s.RangesSafe) : s.softReset.RangesSafe := by
  have hfront : s.softReset.front = s.softResetBlocks.front := by
    rw [State.softReset_eq]
    unfold State.leaveReset
    split
    · exact (State.raise_side _ _).front
    · rfl
  refine hs.of_keeps (State.softReset_keeps s) fun p hp => ?_
  by_cases hreadings : p = .readings
  · subst hreadings
    exact inRange_noReadings (by rw [hfront]; rfl) (by rw [hfront]; rfl) (by rw [hfront]; rfl)
  · refine .of_not_ranged _ ?_
    revert p
    decide

theorem State.RangesSafe.answer {s : State} (hs : s.RangesSafe) (i : Instr) (b : List Byte) :
    (s.answer i b).RangesSafe :=
  hs.of_unranged (State.answer_keeps s i b) rfl

theorem exec_rangesSafe {s : State} (hs : s.RangesSafe) (i : Instr) : Answers State.RangesSafe (exec i s) := by
  intro t ht
  cases i with
  | powerOnReset =>
    cases ht
    exact (State.powerOnBlocks_rangesSafe s).of_unranged (State.powerOn_keeps s) rfl
  | replySent =>
    rcases execReplySent_cases s t ht with hk | ⟨u, hk, rfl⟩
    · exact hs.of_unranged hk rfl
    · exact (hs.of_unranged hk rfl).softReset
  | monitorReading c code valid => exact execMonitorReading_rangesSafe hs c code valid t ht
  | setChannel c d g => cases ht; exact (hs.takeSetChannel c d g).answer _ _
  | setContact k u l d b => cases ht; exact (hs.takeSetContact k u l d b).answer _ _
  | setSource j e d f r p => cases ht; exact (hs.takeSetSource j e d f r p).answer _ _
  | setSpan d c => cases ht; exact (hs.takeSetSpan d c).answer _ _
  | setProfile p d l a m => cases ht; exact (hs.takeSetProfile p d l a m).answer _ _
  | _ => exact hs.of_unranged (exec_keeps s _ t ht) rfl

/-! ### A millisecond -/

theorem State.tick_contact (s : State) (k : ContactNo) : s.tick.contact k = tickContact (s.contact k) := look_ofFn _ k

theorem State.tick_span (s : State) (d : Degree) : s.tick.span d = tickSpan (s.span d) := look_ofFn _ d

theorem State.tick_line (s : State) (d : Degree) : s.tick.line d = tickLine (s.line d) := look_ofFn _ d

/-- A millisecond changes timers alone: of the aspects, the lines and the claim. -/
theorem State.tick_keeps (s : State) : Keeps [.lines, .claim] s s.tick := by
  refine ⟨fun p hp => ?_⟩
  cases p
  case contacts => funext k; rw [State.tick_contact]; rfl
  case spanConfig => funext d; rw [State.tick_span]; rfl
  case site =>
    refine congrArg (Prod.mk s.words.own) ?_
    funext d
    rw [State.tick_line]
    rfl
  all_goals first | rfl | exact absurd (by decide) hp

theorem State.LinesSafe.tick {s : State} (hs : s.LinesSafe) : s.tick.LinesSafe := fun d => by
  rw [State.tick_line]
  exact tickLine_safe (hs d)

theorem State.ClaimSafe.tick {s : State} (hs : s.ClaimSafe) : s.tick.ClaimSafe := by
  intro c hc
  obtain ⟨x, hx, rfl⟩ := Option.map_eq_some_iff.mp hc
  have hsafe := hs x hx
  exact ⟨hsafe.degrees, hsafe.recorded, (Nat.sub_le ..).trans hsafe.life⟩

/-- Settles O60: each of the five invariants is kept by every command (`exec_linesSafe`, `exec_captureSafe`,
`exec_conditionsSafe`, `exec_claimSafe`, `exec_rangesSafe`) and by a millisecond. -/
theorem everyStepKeepsTheRecordsSafe : Obligations.EveryStepKeepsTheRecordsSafe := by
  intro s t h
  unfold step at h
  split at h
  · cases h
    have hk := s.tick_keeps
    refine ⟨fun hs => hs.tick, fun hs => ?_, fun hs => hs.of_keeps hk (by decide), fun hs => hs.tick,
      fun hs => hs.of_unranged hk rfl⟩
    have hcapture : s.tick.capture = s.capture := hk.same .capture (by decide)
    rw [hcapture]
    exact hs
  · next i rest _ =>
    exact ⟨fun hs => exec_linesSafe (s := { s with pending := rest }) hs i t h,
      fun hs => exec_captureSafe (s := { s with pending := rest }) hs i t h,
      fun hs => exec_conditionsSafe (s := { s with pending := rest }) ⟨hs.keys, hs.records, hs.snapshots⟩ i t h,
      fun hs => exec_claimSafe (s := { s with pending := rest }) hs i t h,
      fun hs => exec_rangesSafe (s := { s with pending := rest })
        ⟨hs.calib, hs.readings, hs.heldOut, hs.ratio, hs.debounce, hs.setpoints, hs.spans, hs.profiles⟩ i t h⟩

end Sys2Proof.Machine
end

section
/-! O3 and O11: the values after a power-on reset, and the conversion of a valid reading (R6). -/

namespace Sys2Proof.Machine

/-- Settles O3: each table is a constant one. -/
theorem resetValuesOfTheSafetyBlocks : Obligations.ResetValuesOfTheSafetyBlocks := by
  refine ⟨fun c => look_replicate _ c, fun c => look_replicate _ c, fun d => look_replicate _ d,
    fun d => look_replicate _ d, fun d => ⟨look_replicate _ d, look_replicate _ d, look_replicate _ d⟩,
    fun c => look_replicate _ c, fun k => ?_, rfl, fun e => look_replicate _ e, fun i => ?_,
    fun d => look_replicate _ d⟩
  · have hk : State.reset.contact k = defaultContact := look_replicate _ k
    rw [hk]
    exact ⟨rfl, rfl, rfl, rfl, rfl⟩
  · have hi : State.reset.source i = defaultSource := look_replicate _ i
    rw [hi]
    rfl

/-! ### The logarithm -/

theorem bigPow_eq (b e : Nat) : bigPow b e = b ^ e := by
  rw [bigPow, ← pow_mul, ← pow_add, Nat.div_add_mod]

/-- One bit of the search for the largest `m` with 10 to the `m` at most `x`. -/
def logStep (x m b : Nat) : Nat := if bigPow 10 (m + b) ≤ x then m + b else m

/-- One bit halves the range in which the logarithm lies. -/
theorem logStep_bounds {x m b : Nat} (hlow : 10 ^ m ≤ x) (hhigh : x < 10 ^ (m + (b + b))) :
    10 ^ logStep x m b ≤ x ∧ x < 10 ^ (logStep x m b + b) := by
  unfold logStep
  rw [bigPow_eq]
  split
  · next h => exact ⟨h, by rwa [Nat.add_assoc]⟩
  · next h => exact ⟨hlow, Nat.lt_of_not_le h⟩

/-- The bits from 2 to the `k - 1` down to 1 find the logarithm in a range of 2 to the `k`. -/
theorem foldl_logStep_bounds (x k : Nat) {m : Nat} (hlow : 10 ^ m ≤ x) (hhigh : x < 10 ^ (m + 2 ^ k)) :
    10 ^ (((List.range k).reverse.map (2 ^ ·)).foldl (logStep x) m) ≤ x ∧
      x < 10 ^ (((List.range k).reverse.map (2 ^ ·)).foldl (logStep x) m + 1) := by
  induction k generalizing m with
  | zero => exact ⟨hlow, hhigh⟩
  | succ k ih =>
    obtain ⟨hl, hh⟩ := logStep_bounds (b := 2 ^ k) hlow (by rwa [← Nat.two_mul, ← Nat.pow_succ'])
    rw [List.range_succ, List.reverse_append, List.reverse_singleton, List.singleton_append, List.map_cons,
      List.foldl_cons]
    exact ih hl hh

theorem floorLog10_bounds {x : Nat} (hpos : 1 ≤ x) (hx : x < 10 ^ 2 ^ 13) :
    10 ^ floorLog10 x ≤ x ∧ x < 10 ^ (floorLog10 x + 1) := by
  have hbits : floorLog10 x = ((List.range 13).reverse.map (2 ^ ·)).foldl (logStep x) 0 := rfl
  rw [hbits]
  exact foldl_logStep_bounds x 13 (m := 0) hpos (by rwa [Nat.zero_add])

/-- A code of twelve bits to a power up to 2048 lies in the range of the search. -/
theorem code_pow_lt {n k : Nat} (h : n < 10 ^ 4) (hk : k ≠ 0) (hmax : 4 * k ≤ 2 ^ 13) : n ^ k < 10 ^ 2 ^ 13 :=
  calc n ^ k < (10 ^ 4) ^ k := Nat.pow_lt_pow_left h hk
    _ = 10 ^ (4 * k) := (pow_mul 10 4 k).symm
    _ ≤ 10 ^ 2 ^ 13 := Nat.pow_le_pow_right (by decide) hmax

/-- `milliLog10 n` is 1000 × log10(n) to the nearest integer, for every difference of a code and a dark offset. -/
theorem milliLog10_nearest {n : Nat} (hpos : 1 ≤ n) (hn : n < 10 ^ 4) :
    10 ^ (2 * milliLog10 n) ≤ 10 * n ^ 2000 ∧ 10 * n ^ 2000 < 10 ^ (2 * milliLog10 n + 2) := by
  have hmax : n ^ 2000 < 10 ^ 2 ^ 13 := code_pow_lt hn (by decide) (by decide)
  obtain ⟨hlow, hhigh⟩ := floorLog10_bounds (one_le_pow₀ hpos) hmax
  have hv : milliLog10 n = (floorLog10 (n ^ 2000) + 1) / 2 := by rw [milliLog10, bigPow_eq]
  rw [hv]
  generalize floorLog10 (n ^ 2000) = m at hlow hhigh
  generalize n ^ 2000 = x at hlow hhigh
  constructor
  · calc 10 ^ (2 * ((m + 1) / 2)) ≤ 10 ^ (m + 1) := Nat.pow_le_pow_right (by decide) (Nat.mul_div_le ..)
      _ = 10 * 10 ^ m := Nat.pow_succ'
      _ ≤ 10 * x := Nat.mul_le_mul_left 10 hlow
  · calc 10 * x < 10 * 10 ^ (m + 1) := Nat.mul_lt_mul_of_pos_left hhigh (by decide)
      _ = 10 ^ (m + 2) := Nat.pow_succ'.symm
      _ ≤ 10 ^ (2 * ((m + 1) / 2) + 2) := Nat.pow_le_pow_right (by decide) (by omega)

/-- Settles O11: the search of `floorLog10` finds the logarithm to half a unit, and halving rounds it. -/
theorem conversionOfAValidReading : Obligations.ConversionOfAValidReading := by
  intro k code
  refine ⟨fun h => if_pos h, fun h => ⟨milliLog10 (code.toNat - k.dark), ?_⟩⟩
  have hcode := code.isLt
  obtain ⟨hlow, hhigh⟩ := milliLog10_nearest (n := code.toNat - k.dark) (by omega) (by omega)
  exact ⟨hlow, hhigh, if_neg (Nat.not_le.mpr h)⟩

end Sys2Proof.Machine
end

section
/-! O12 and O13: what MONITOR_READING leaves in the records, and what the qualifiers take of it. -/

namespace Sys2Proof.Machine

/-! ### What a decided raise or clear writes -/

/-- The parts of the state that a raise or a clear of a condition that is no contact's writes. -/
structure Decision where
  active : List CondRecord
  touch : Vector Word32 4
  queue : List MapItem
  transit : Transit

/-- The state with what `x` says written; the samples in transit stay. -/
def State.withDecision (s : State) (x : Decision) : State :=
  { s with
    cond := { s.cond with active := x.active, touch := x.touch }
    map := { s.map with queue := x.queue }
    transit := { x.transit with samples := s.transit.samples } }

/-- What stands already, as a decision. -/
def State.standing (s : State) : Decision :=
  { active := s.cond.active, touch := s.cond.touch, queue := s.map.queue, transit := s.transit }

theorem State.raise_eq_withDecision (s : State) (k : Key) : ∃ x, s.raise k = s.withDecision x := by
  refine ⟨(s.raise k).standing, ?_⟩
  unfold State.raise
  split
  · split <;> rfl
  · rfl

theorem State.takeWaitingRaise_of_no_contact (s : State) {k : Key} (hk : ∀ n, k.detail ≠ some (.contact n)) :
    s.takeWaitingRaise k = s := by
  unfold State.takeWaitingRaise
  split
  · next n hn => exact absurd hn (hk n)
  · rfl
  · rfl

theorem State.record?_key {s : State} {k : Key} {r : CondRecord} (h : s.record? k = some r) : r.key = k :=
  eq_of_beq (List.find?_some (p := fun x : CondRecord => x.key == k) h)

theorem State.clearDue_eq_withDecision (s : State) {k : Key} (hk : ∀ n, k.detail ≠ some (.contact n)) (c : ClearCause) :
    ∃ x, s.clearDue k c = s.withDecision x := by
  refine ⟨(s.clearDue k c).standing, ?_⟩
  unfold State.clearDue
  split
  · rfl
  · next r hr =>
    split
    · rfl
    · rw [State.takeClear, State.takeWaitingRaise_of_no_contact _ (State.record?_key hr ▸ hk)]
      rfl

theorem State.decided_eq_withDecision (s : State) {k : Key} (hk : ∀ n, k.detail ≠ some (.contact n)) (o : Option Bool) :
    ∃ x, s.decided k o = s.withDecision x :=
  match o with
  | some true => s.raise_eq_withDecision k
  | some false => s.clearDue_eq_withDecision hk .normal
  | none => ⟨s.standing, rfl⟩

/-! ### One qualifier takes its input -/

/-- DARK_IN of `d` after the value `v`. -/
def State.darkTaken (s : State) (d : Degree) (v : Int) : Qualifier :=
  ((look s.cond.dark d).take (s.limits d).darkRaise (s.limits d).darkClear
    (sideBelow v (s.limits d).darkLevel (s.limits d).darkHyst)).1

/-- REFLECT of `d` after the ratio record `x`. -/
def State.reflTaken (s : State) (d : Degree) (x : Ratio) : Qualifier :=
  ((look s.cond.refl d).take (s.limits d).reflectRaise (s.limits d).reflectClear (ratioSide (s.limits d) x)).1

/-- PUMP_REFLECT of `d` after the value `v`. -/
def State.pumpTaken (s : State) (d : Degree) (v : Int) : Qualifier :=
  ((look s.cond.pump d).take (s.limits d).pumpRaise (s.limits d).pumpClear
    (sideAbove v (s.limits d).pumpLimit (s.limits d).pumpHyst)).1

/-- MONITOR_FAULT of `c` after a fault reading or a good one. -/
def State.faultTaken (s : State) (c : ChannelNo) (isFault : Bool) : Qualifier :=
  ((look s.cond.fault c).take faultRaise faultClear (if isFault then .hazard else .safe)).1

theorem degreeKey_no_contact (k : Kind) (d : Degree) (n : ContactNo) : (degreeKey k d).detail ≠ some (.contact n) := by
  simp [degreeKey]

theorem faultKey_no_contact (c : ChannelNo) (n : ContactNo) : (faultKey c).detail ≠ some (.contact n) := by
  simp [faultKey]

theorem State.feedDark_eq (s : State) (d : Degree) (v : Int) :
    ∃ x, s.feedDark d v =
      ({ s with cond := { s.cond with dark := put s.cond.dark d (s.darkTaken d v) } } : State).withDecision x :=
  State.decided_eq_withDecision _ (degreeKey_no_contact _ d) _

theorem State.feedReflect_eq (s : State) (d : Degree) (r : Ratio) :
    ∃ x, s.feedReflect d r =
      ({ s with cond := { s.cond with refl := put s.cond.refl d (s.reflTaken d r) } } : State).withDecision x :=
  State.decided_eq_withDecision _ (degreeKey_no_contact _ d) _

theorem State.feedPump_eq (s : State) (d : Degree) (v : Int) :
    ∃ x, s.feedPump d v =
      ({ s with cond := { s.cond with pump := put s.cond.pump d (s.pumpTaken d v) } } : State).withDecision x :=
  State.decided_eq_withDecision _ (degreeKey_no_contact _ d) _

theorem State.feedFault_eq (s : State) (c : ChannelNo) (b : Bool) :
    ∃ x, s.feedFault c b =
      ({ s with cond := { s.cond with fault := put s.cond.fault c (s.faultTaken c b) } } : State).withDecision x :=
  State.decided_eq_withDecision _ (faultKey_no_contact c) _

/-! ### The state after MONITOR_READING, but for what was decided -/

/-- The ratio record that a REFL reading of the value `v` leaves for `d` (R12). -/
def State.ratioAfter (s : State) (d : Degree) (v : Int) : Ratio :=
  ratioOf v (s.front.outValue d) (s.limits d).outFloor

/-- The front end after the reading. -/
def State.frontAfter (s : State) (c : ChannelNo) (r : Reading) : FrontEnd :=
  { s.front.store c r with
    ratio := if chanRole c = .refl then put s.front.ratio (chanDegree c) (s.ratioAfter (chanDegree c) r.value)
      else s.front.ratio }

/-- The qualifiers after the reading. -/
def State.qualifiersAfter (s : State) (c : ChannelNo) (r : Reading) : CondUnit :=
  { s.cond with
    fault := put s.cond.fault c (s.faultTaken c r.isFault)
    dark := if chanRole c = .inn then put s.cond.dark (chanDegree c) (s.darkTaken (chanDegree c) r.value) else s.cond.dark
    refl := if chanRole c = .refl then
        put s.cond.refl (chanDegree c) (s.reflTaken (chanDegree c) (s.ratioAfter (chanDegree c) r.value))
      else s.cond.refl
    pump := if chanRole c = .prefl then put s.cond.pump (chanDegree c) (s.pumpTaken (chanDegree c) r.value)
      else s.cond.pump }

/-- The sample that an IN reading of the value `v` hands on (R14). -/
def State.sampleAfter (s : State) (d : Degree) (v : Int) : Sample :=
  { pIn := v, pOut := s.front.outValue d, dark := (s.darkTaken d v).raised, refl := (look s.cond.refl d).raised }

/-- The samples in transit after the reading. -/
def State.samplesAfter (s : State) (c : ChannelNo) (r : Reading) : List (Degree × Sample) :=
  if chanRole c = .inn then s.transit.samples ++ [(chanDegree c, s.sampleAfter (chanDegree c) r.value)]
  else s.transit.samples

/-- The state after the reading, but for what the qualifiers decided. -/
def State.afterReading (s : State) (c : ChannelNo) (r : Reading) : State :=
  { s with
    front := s.frontAfter c r
    cond := s.qualifiersAfter c r
    transit := { s.transit with samples := s.samplesAfter c r } }

/-- A reading of a channel that is no OUT channel leaves the power of every OUT channel. -/
theorem FrontEnd.outValue_store (f : FrontEnd) {c : ChannelNo} (hc : chanRole c ≠ .out) (r : Reading) (d : Degree) :
    (f.store c r).outValue d = f.outValue d := by
  have hne : c ≠ channel d 1 := by
    have hout : ∀ d, chanRole (channel d 1) = .out := by decide
    exact fun h => hc (h ▸ hout d)
  exact congrArg Reading.value (look_put_ne _ _ hne)

/-- The state between the two consumers of a reading: its record stored and MONITOR_FAULT fed. -/
def State.storedAndFed (s : State) (c : ChannelNo) (r : Reading) : State :=
  { s with front := s.front.store c r, cond := { s.cond with fault := put s.cond.fault c (s.faultTaken c r.isFault) } }

theorem State.distribute_after_fault (s : State) (c : ChannelNo) (r : Reading) (x : Decision) :
    ∃ y, ((s.storedAndFed c r).withDecision x).distribute c r.value = (s.afterReading c r).withDecision y := by
  unfold State.distribute
  have hout : chanRole c ≠ .out → ∀ d, (s.front.store c r).outValue d = s.front.outValue d :=
    fun h d => s.front.outValue_store h r d
  cases hrole : chanRole c with
  | inn =>
    obtain ⟨y, hy⟩ := ((s.storedAndFed c r).withDecision x).feedDark_eq (chanDegree c) r.value
    refine ⟨y, ?_⟩
    have hsample : State.sampleNow (((s.storedAndFed c r).withDecision x).feedDark (chanDegree c) r.value) (chanDegree c)
        r.value = s.sampleAfter (chanDegree c) r.value := by
      rw [hy]
      show Sample.mk _ ((s.front.store c r).outValue _) (Qualifier.raised (look (put _ _ _) _)) _ = _
      rw [look_put_same]
      exact congrArg (Sample.mk _ · _ _) (hout (by simp [hrole]) _)
    simp only [hsample]
    simp only [hy, State.afterReading, State.frontAfter, State.qualifiersAfter, State.samplesAfter, hrole]
    rfl
  | out =>
    refine ⟨x, ?_⟩
    simp only [State.afterReading, State.frontAfter, State.qualifiersAfter, State.samplesAfter, hrole]
    rfl
  | refl =>
    obtain ⟨y, hy⟩ := State.feedReflect_eq { (s.storedAndFed c r).withDecision x with
      front := { s.front.store c r with
        ratio := put s.front.ratio (chanDegree c) (s.ratioAfter (chanDegree c) r.value) } } (chanDegree c)
      (s.ratioAfter (chanDegree c) r.value)
    refine ⟨y, Eq.trans ?_ (hy.trans ?_)⟩
    · have hratio : ratioOf r.value (((s.storedAndFed c r).withDecision x).front.outValue (chanDegree c))
          (((s.storedAndFed c r).withDecision x).limits (chanDegree c)).outFloor = s.ratioAfter (chanDegree c) r.value :=
        congrArg (ratioOf r.value · _) (hout (by simp [hrole]) _)
      simp only [hratio]
      rfl
    · simp only [State.afterReading, State.frontAfter, State.qualifiersAfter, State.samplesAfter, hrole]
      rfl
  | prefl =>
    obtain ⟨y, hy⟩ := ((s.storedAndFed c r).withDecision x).feedPump_eq (chanDegree c) r.value
    refine ⟨y, ?_⟩
    simp only [hy, State.afterReading, State.frontAfter, State.qualifiersAfter, State.samplesAfter, hrole]
    rfl

/-- MONITOR_READING is the writing of its records and of what the qualifiers decided. -/
theorem execMonitorReading_eq (c : ChannelNo) (code : BitVec 12) (valid : Bool) (s : State) :
    ∃ x, exec (.monitorReading c code valid) s =
      .next ((s.afterReading c (s.readingAt c code valid)).withDecision x) := by
  obtain ⟨x, hx⟩ := ({ s with front := s.front.store c (s.readingAt c code valid) } : State).feedFault_eq c
    (s.readingAt c code valid).isFault
  obtain ⟨y, hy⟩ := s.distribute_after_fault c (s.readingAt c code valid) x
  exact ⟨y, congrArg _ ((congrArg (State.distribute · c _) hx).trans hy)⟩

/-- A table that is written at one place, and only on a condition. -/
theorem look_ite_put {α : Type} {n : Nat} {p : Prop} [Decidable p] {v : Vector α n} {i j : Fin n} {x y : α}
    (hxy : p → i = j → x = y) : look (if p then put v i x else v) j = if p ∧ i = j then y else look v j := by
  by_cases hp : p
  · by_cases hij : i = j
    · simp [hp, hij, hxy hp hij]
    · simp [hp, hij, look_put_ne]
  · simp [hp]

/-- The record that the reading leaves, as R3, R8 and R10 give it. -/
theorem State.readingAt_eq (s : State) (c : ChannelNo) (code : BitVec 12) (valid : Bool) :
    s.readingAt c code valid =
      { present := true, raw := code, valid := valid, saturated := valid && code == 4095#12,
        value := if valid then convert (look s.front.calib c) code else
          match chanRole c with
          | .inn => -6000
          | .out => (look s.front.heldOut (chanDegree c)).getD (-6000)
          | .refl => 3000
          | .prefl => 3000 } := by
  unfold State.readingAt readingOf
  cases chanRole c <;> rfl

theorem State.look_last_frontAfter (s : State) (c : ChannelNo) (r : Reading) : look (s.frontAfter c r).last c = r :=
  look_put_same ..

theorem State.look_ratio_frontAfter (s : State) (c : ChannelNo) (r : Reading) (d : Degree) :
    look (s.frontAfter c r).ratio d =
      if chanRole c = .refl ∧ chanDegree c = d then s.ratioAfter d r.value else look s.front.ratio d :=
  look_ite_put fun _ hd => by rw [hd]

/-- The held value changes by a valid OUT reading only (R9). -/
theorem State.look_heldOut_frontAfter (s : State) (c : ChannelNo) (r : Reading) (d : Degree) :
    look (s.frontAfter c r).heldOut d =
      if (chanRole c = .out ∧ r.valid = true) ∧ chanDegree c = d then some r.value else look s.front.heldOut d :=
  look_ite_put fun _ _ => rfl

theorem State.look_dark_qualifiersAfter (s : State) (c : ChannelNo) (r : Reading) (d : Degree) :
    look (s.qualifiersAfter c r).dark d =
      if chanRole c = .inn ∧ chanDegree c = d then s.darkTaken d r.value else look s.cond.dark d :=
  look_ite_put fun _ hd => by rw [hd]

theorem State.look_refl_qualifiersAfter (s : State) (c : ChannelNo) (r : Reading) (d : Degree) :
    look (s.qualifiersAfter c r).refl d =
      if chanRole c = .refl ∧ chanDegree c = d then s.reflTaken d (s.ratioAfter d r.value) else look s.cond.refl d :=
  look_ite_put fun _ hd => by rw [hd]

theorem State.look_pump_qualifiersAfter (s : State) (c : ChannelNo) (r : Reading) (d : Degree) :
    look (s.qualifiersAfter c r).pump d =
      if chanRole c = .prefl ∧ chanDegree c = d then s.pumpTaken d r.value else look s.cond.pump d :=
  look_ite_put fun _ hd => by rw [hd]

/-- Settles O12: the reading's record, and what the other records take of it. -/
theorem aReadingIsRecorded : Obligations.AReadingIsRecorded := by
  intro c code valid s
  obtain ⟨x, hx⟩ := execMonitorReading_eq c code valid s
  have hlast := s.look_last_frontAfter c (s.readingAt c code valid)
  refine ⟨_, hx, hlast.trans (s.readingAt_eq ..), fun e he => look_put_ne _ _ he.symm, fun d => ?_, fun d => ?_, rfl, ?_,
    rfl⟩
  · refine (s.look_heldOut_frontAfter ..).trans ?_
    cases valid <;> simp [State.readingAt, readingOf]
  · refine (s.look_ratio_frontAfter ..).trans ?_
    show _ = if _ then Ratio.mk ((look (s.frontAfter c _).last c).value - _) _ else _
    rw [hlast]
    rfl
  · show s.samplesAfter c _ = if _ then _ ++ [(_, Sample.mk (look (s.frontAfter c _).last c).value _
      (look (s.qualifiersAfter c _).dark _).raised (look (s.qualifiersAfter c _).refl _).raised)] else _
    rw [hlast, s.look_dark_qualifiersAfter, s.look_refl_qualifiersAfter, State.samplesAfter]
    cases hrole : chanRole c <;> simp [State.sampleAfter, FrontEnd.outValue]

/-- Settles O13: the equations of `take`, and the qualifiers of `State.qualifiersAfter`. -/
theorem qualifiersTakeReadings : Obligations.QualifiersTakeReadings := by
  refine ⟨fun n raiseCount clearCount b => ⟨rfl, rfl, rfl, rfl, rfl, rfl⟩, fun c code valid s => ?_⟩
  obtain ⟨x, hx⟩ := execMonitorReading_eq c code valid s
  have hlast := s.look_last_frontAfter c (s.readingAt c code valid)
  refine ⟨_, hx, fun e => ?_, fun d => ?_, fun d => ?_, fun d => ?_⟩
  · have hfault : (if (s.readingAt c code valid).isFault then Side.hazard else .safe) =
        if valid = true ∧ code ≠ 4095#12 then .safe else .hazard := by
      cases valid <;> simp [State.readingAt, readingOf, Reading.isFault, saturationCode]
    refine (look_put ..).trans (if_congr eq_comm ?_ rfl)
    rw [State.faultTaken, hfault]
    rfl
  · refine (s.look_dark_qualifiersAfter ..).trans ?_
    show _ = if _ then ((look s.cond.dark d).take _ _ (if (look (s.frontAfter c _).last c).value < _ then _ else
      if _ ≤ (look (s.frontAfter c _).last c).value then _ else _)).1 else _
    rw [hlast]
    rfl
  · refine (s.look_refl_qualifiersAfter ..).trans (ite_congr rfl (fun hd => ?_) fun _ => rfl)
    have hratio : look (s.frontAfter c (s.readingAt c code valid)).ratio d =
        s.ratioAfter d (s.readingAt c code valid).value :=
      (s.look_ratio_frontAfter ..).trans (if_pos hd)
    show _ = ((look s.cond.refl d).take _ _ (if (look (s.frontAfter c _).ratio d).evaluated = false then _ else
      if _ < (look (s.frontAfter c _).ratio d).r then _ else if (look (s.frontAfter c _).ratio d).r ≤ _ then _ else _)).1
    rw [hratio, State.reflTaken, ratioSide]
    cases (s.ratioAfter d (s.readingAt c code valid).value).evaluated <;> rfl
  · refine (s.look_pump_qualifiersAfter ..).trans ?_
    show _ = if _ then ((look s.cond.pump d).take _ _ (if _ < (look (s.frontAfter c _).last c).value then _ else
      if (look (s.frontAfter c _).last c).value ≤ _ then _ else _)).1 else _
    rw [hlast]
    rfl

end Sys2Proof.Machine
end

section
/-! O49: what the five configuration requests store, and what they answer. -/

namespace Sys2Proof.Machine

/-! ### The answer of a request whose operands are in range -/

theorem okOrClamped_eq_ite {b : Bool} {p : Prop} [Decidable p] (h : b = true ↔ ¬p) :
    okOrClamped b = if p then 0x00 else 0x01 := by
  by_cases hp : p
  · rw [if_pos hp, Bool.eq_false_iff.mpr (mt h.mp (not_not_intro hp))]
    rfl
  · rw [if_neg hp, h.mpr hp]
    rfl

/-- A value differs from its clamped one exactly outside the range. -/
theorem clampNat_zero_ne_iff (hi v : Nat) : clampNat 0 hi v ≠ v ↔ ¬v ≤ hi := by
  unfold clampNat
  omega

theorem clampInt_ne_iff {lo hi : Int} (h : lo ≤ hi) (v : Int) : clampInt lo hi v ≠ v ↔ ¬(lo ≤ v ∧ v ≤ hi) := by
  unfold clampInt
  omega

theorem index?_ofNat {n : Nat} (hn : n ≤ 256) (i : Fin n) : index? n (BitVec.ofNat 8 i.val) = some i :=
  (index?_eq_some hn _ i).mpr rfl

theorem set?_setWidth (m : BitVec 4) : set? (m.setWidth 8) = some m :=
  (set?_eq_some _ m).mpr rfl

theorem switch?_ite (x : Bool) : switch? (if x then 1 else 0) = some x := by
  cases x <;> rfl

/-! ### SET_CHANNEL (R5) -/

/-- The calibration that SET_CHANNEL stores. -/
def calibrationOf (dark gain : Half) : Calibration :=
  { dark := clampNat 0 255 dark.toNat, gain := clampInt (-5000) 5000 gain.toInt }

theorem execSetChannel_stores (s : State) (c : ChannelNo) (x y : Half) :
    exec (.setChannel (BitVec.ofNat 8 c.val) x y) s =
      .next (State.answer { s with front := { s.front with calib := put s.front.calib c (calibrationOf x y) } }
        (.setChannel (BitVec.ofNat 8 c.val) x y)
        [if x.toNat ≤ 255 ∧ -5000 ≤ y.toInt ∧ y.toInt ≤ 5000 then 0x00 else 0x01]) := by
  have hcode : okOrClamped ((calibrationOf x y).dark != x.toNat || (calibrationOf x y).gain != y.toInt) =
      if x.toNat ≤ 255 ∧ -5000 ≤ y.toInt ∧ y.toInt ≤ 5000 then 0x00 else 0x01 :=
    okOrClamped_eq_ite (by
      rw [Bool.or_eq_true, bne_iff_ne, bne_iff_ne, not_and_or]
      exact or_congr (clampNat_zero_ne_iff ..) (clampInt_ne_iff (by decide) _))
  show Host.Outcome.next (State.serve _ (s.takeSetChannel ..)) = _
  rw [State.takeSetChannel, index?_ofNat (by decide), ← hcode]
  rfl

/-! ### SET_SPAN (R86) -/

theorem clampSpanConfig_eq (g : RawSpanConfig) : clampSpanConfig g =
    { hazardLimit := max (-1000) (min 2000 g.hazardLimit.toInt)
      restartInterval := max 20 (min 300 g.restartInterval.toNat)
      probeTime := max 5 (min 30 g.probeTime.toNat)
      probeLimit := max 1 (min 15 g.probeLimit.toNat)
      settleTime := max 100 (min 5000 g.settleTime.toNat)
      rampDepth := min 3000 g.rampDepth.toNat
      rampStep := max 10 (min 1000 g.rampStep.toNat)
      rampInterval := max 20 (min 1000 g.rampInterval.toNat) } := by
  simp [clampSpanConfig, clampNat, clampInt]

/-- Recomputation of the sources exposed on a degree, by an event that makes no state change. -/
theorem State.recomputeExposed_changed (s : State) (d : Degree) : SourcesChanged s
    (fun i => if (s.source i).exposure.degree = some d then (s.source i).regranted s.ctrl.spans else s.source i)
    (s.recomputeAll false (s.exposedOn d)) := by
  have h := s.recomputeAll_changed fun i => (s.source i).exposure.degree == some d
  simp only [beq_iff_eq] at h
  exact h

theorem execSetSpan_stores (s : State) (d : Degree) (g : RawSpanConfig) : ∃ t,
    exec (.setSpan (BitVec.ofNat 8 d.val) g) s = .next (State.answer t (.setSpan (BitVec.ofNat 8 d.val) g)
      [if clampSpanConfig g = rawSpanConfig g then 0x00 else 0x01]) ∧
    SourcesChanged (s.setSpan d { s.span d with config := clampSpanConfig g }) (fun i =>
      if (s.source i).exposure.degree = some d then (s.source i).regranted t.ctrl.spans else s.source i) t := by
  have hcode : okOrClamped (clampSpanConfig g != rawSpanConfig g) =
      if clampSpanConfig g = rawSpanConfig g then 0x00 else 0x01 := okOrClamped_eq_ite bne_iff_ne
  have hchanged := (s.setSpan d { s.span d with config := clampSpanConfig g }).recomputeExposed_changed d
  refine ⟨_, ?_, (congrArg State.ctrl hchanged.frame) ▸ hchanged⟩
  show Host.Outcome.next (State.serve _ (s.takeSetSpan ..)) = _
  rw [State.takeSetSpan, index?_ofNat (by decide), ← hcode]
  rfl

/-! ### SET_SITE (R132) -/

theorem siteOrdinal_toNat (h : Half) : (siteOrdinal h).toNat = min 4095 h.toNat := by
  have : clampNat 0 4095 h.toNat = min 4095 h.toNat := by simp [clampNat]
  rw [siteOrdinal, this, BitVec.toNat_ofNat]
  omega

theorem handLine_foldl_eq (e : LineEvent) (l : List Degree) (s : State) :
    l.foldl (fun t d => t.handLine d e) s =
      { s with transit := { s.transit with fromLine := s.transit.fromLine ++ l.map fun d => (d, e) } } := by
  induction l generalizing s with
  | nil => simp
  | cons d l ih =>
    rw [List.foldl_cons, ih, List.map_cons]
    simp [State.handLine]

/-- Of two different ordinals one is `z` exactly where one alone is. -/
theorem crossing_eq {a b z : Ordinal} (h : b ≠ a) : ((a == z) != (b == z)) = decide (a = z ∨ b = z) := by
  by_cases ha : a = z
  · have hb : b ≠ z := ha ▸ h
    simp [ha, hb]
  · have hfalse : (a == z) = false := beq_eq_false_iff_ne.mpr ha
    simp [hfalse, ha, beq_eq_decide]

theorem execSetSite_stores (s : State) (o a b c e : Half) : ∃ t : State,
    exec (.setSite o a b c e) s = .next (t.answer (.setSite o a b c e)
      [if o.toNat < 4096 ∧ a.toNat < 4096 ∧ b.toNat < 4096 ∧ c.toNat < 4096 ∧ e.toNat < 4096 then 0x00 else 0x01]) ∧
    t.words = s.words.setSite (siteOrdinal o) #v[siteOrdinal a, siteOrdinal b, siteOrdinal c, siteOrdinal e] ∧
    (t.words.own = s.words.own → t = { s with words := t.words }) ∧
    (t.words.own ≠ s.words.own → t = { s with
      words := t.words
      transit := { s.transit with fromLine := s.transit.fromLine ++ (List.finRange 4).map fun d =>
        (d, .ordinal (decide (s.words.own = 0 ∨ t.words.own = 0))) } }) := by
  have hcode : okOrClamped ([o, a, b, c, e].any ordinalClamped) =
      if o.toNat < 4096 ∧ a.toNat < 4096 ∧ b.toNat < 4096 ∧ c.toNat < 4096 ∧ e.toNat < 4096 then 0x00 else 0x01 :=
    okOrClamped_eq_ite (by simp [ordinalClamped]; omega)
  show ∃ t : State, Host.Outcome.next (State.serve _ (s.takeSetSite ..)) = _ ∧ _
  rw [State.takeSetSite, ← hcode]
  by_cases hown : siteOrdinal o = s.words.own
  · simp only [if_pos hown]
    exact ⟨_, rfl, rfl, fun _ => rfl, fun h => absurd hown h⟩
  · simp only [if_neg hown, handLine_foldl_eq, crossing_eq hown]
    exact ⟨_, rfl, rfl, fun h => absurd h hown, fun _ => rfl⟩

/-! ### SET_PROFILE and SELECT_PROFILE (R136, R139) -/

theorem clampLimits_eq (l : RawLimits) (x : Bool) : clampLimits l x =
    { darkLevel := max (-5000) (min 0 l.darkLevel.toInt), darkHyst := max 50 (min 600 l.darkHyst.toNat),
      darkRaise := max 1 (min 64 l.darkRaise.toNat), darkClear := max 1 (min 4000 l.darkClear.toNat),
      reflectLimit := max (-4000) (min (-800) l.reflectLimit.toInt),
      reflectHyst := max 50 (min 600 l.reflectHyst.toNat),
      reflectRaise := max 1 (min 64 l.reflectRaise.toNat),
      reflectClear := max 1 (min 4000 l.reflectClear.toNat),
      outFloor := max (-3000) (min 1000 l.outFloor.toInt), pumpLimit := max (-3000) (min 2000 l.pumpLimit.toInt),
      pumpHyst := max 50 (min 600 l.pumpHyst.toNat), pumpRaise := max 1 (min 64 l.pumpRaise.toNat),
      pumpClear := max 1 (min 4000 l.pumpClear.toNat), lineTimeout := max 10 (min 100 l.lineTimeout.toNat),
      autoRestart := x } := rfl

theorem ProfileStore.write_profile (p : ProfileStore) (n : ProfileNo) (d : Degree) (l : Limits) (m : ClassMask) :
    look (p.write n d l m).profiles n = { limits := put (look p.profiles n).limits d l, mask := m } :=
  look_put_same ..

theorem execSetProfile_stores (s : State) (n : ProfileNo) (d : Degree) (x : Bool) (k : ClassMask) (l : RawLimits)
    {p a b m : Byte} (hp : p = BitVec.ofNat 8 n.val) (ha : a = BitVec.ofNat 8 d.val) (hb : b = if x then 1 else 0)
    (hm : m = k.setWidth 8) :
    exec (.setProfile p a l b m) s =
      .next (State.answer { s with store := s.store.write n d (clampLimits l x) k } (.setProfile p a l b m)
        [if clampLimits l x = rawLimits l x then 0x00 else 0x01]) := by
  have hcode : okOrClamped (clampLimits l x != rawLimits l x) =
      if clampLimits l x = rawLimits l x then 0x00 else 0x01 := okOrClamped_eq_ite bne_iff_ne
  show Host.Outcome.next (State.serve _ (s.takeSetProfile ..)) = _
  rw [State.takeSetProfile, hp, ha, hb, hm, index?_ofNat (by decide), index?_ofNat (by decide), switch?_ite,
    set?_setWidth, ← hcode]
  rfl

theorem execSelectProfile_eq (s : State) (n : ProfileNo) :
    exec (.selectProfile (BitVec.ofNat 8 n.val)) s =
      .next (State.answer (if n = s.store.active then s else s.switchTo n) (.selectProfile (BitVec.ofNat 8 n.val))
        [0x00]) := by
  show Host.Outcome.next (State.serve _ (s.takeSelectProfile ..)) = _
  rw [State.takeSelectProfile, index?_ofNat (by decide)]
  rfl

/-- Settles O49, request by request. -/
theorem configurationIsStored : Obligations.ConfigurationIsStored := by
  refine fun s => ⟨?_, ?_, ?_, ?_, ?_⟩
  · rintro a x y c rfl
    exact ⟨_, execSetChannel_stores s c x y, by simp [calibrationOf, clampNat, clampInt],
      fun e he => look_put_ne _ _ he.symm, rfl⟩
  · rintro a g d rfl
    obtain ⟨t, ht, hchanged⟩ := execSetSpan_stores s d g
    exact ⟨t, clampSpanConfig g, clampSpanConfig_eq g, ht, hchanged⟩
  · intro o a b c e
    obtain ⟨t, ht, hwords, hsame, hother⟩ := execSetSite_stores s o a b c e
    have hline : ∀ d, t.line d = { s.line d with
        expected := look #v[siteOrdinal a, siteOrdinal b, siteOrdinal c, siteOrdinal e] d } := fun d =>
      (congrArg (fun w : WordUnit => look w.lines d) hwords).trans (look_ofFn _ d)
    refine ⟨t, ht, ?_, fun d h hd => ?_, fun d => ?_, hsame, hother⟩
    · rw [hwords]
      exact siteOrdinal_toNat o
    · rw [hline]
      fin_cases d <;> cases hd <;> exact siteOrdinal_toNat _
    · rw [hline]
  · intro p a b m l n d x k hp ha hb hm
    have hprofile := s.store.write_profile n d (clampLimits l x) k
    refine ⟨_, clampLimits l x, clampLimits_eq l x, execSetProfile_stores s n d x k l hp ha hb hm, ?_,
      congrArg Profile.mask hprofile, fun e he => ?_, fun q hq => look_put_ne _ _ hq.symm, rfl⟩
    · exact (congrArg (fun r : Profile => look r.limits d) hprofile).trans (look_put_same ..)
    · exact (congrArg (fun r : Profile => look r.limits e) hprofile).trans (look_put_ne _ _ he.symm)
  · rintro p n rfl
    rw [execSelectProfile_eq]
    exact ⟨fun h => by rw [if_pos h], fun h => by rw [if_neg h]; rfl⟩

end Sys2Proof.Machine
end

section
/-! O22: the replies of the queries of readings, contacts, conditions and the hazard map, byte by byte. -/

namespace Sys2Proof.Machine

/-! ### Fields -/

theorem optByte_eq {n : Nat} (o : Option (Fin n)) : optByte o = (o.map fun i => BitVec.ofNat 8 i.val).getD 0xFF := by
  cases o <;> rfl

theorem detailByte_eq (o : Option Detail) : detailByte o =
    match o with
    | some (.channel c) => BitVec.ofNat 8 c.val
    | some (.contact n) => BitVec.ofNat 8 n.val
    | none => 0xFF := by
  rcases o with _ | _ | _ <;> rfl

theorem keyBytes_eq (k : Key) : keyBytes k = [kindCode k.kind, (k.degree.map fun d => BitVec.ofNat 8 d.val).getD 0xFF,
    match k.detail with
    | some (.channel c) => BitVec.ofNat 8 c.val
    | some (.contact n) => BitVec.ofNat 8 n.val
    | none => 0xFF] :=
  congrArg₂ (fun x y => [kindCode k.kind, x, y]) (optByte_eq _) (detailByte_eq _)

/-- `n` places for the elements of a list, with a filling for those beyond its end. -/
theorem places_eq {α β : Type} (f : Option α → β) (n : Nat) (l : List α) :
    (List.range n).map (fun i => f l[i]?) =
      (l.take n).map (fun x => f (some x)) ++ List.replicate (n - l.length) (f none) := by
  induction n generalizing l with
  | zero => simp
  | succ n ih =>
    rw [List.range_succ_eq_map, List.map_cons, List.map_map]
    cases l with
    | nil => simp [List.replicate_succ, Function.comp_def]
    | cons x l => simpa [Function.comp_def] using ih l

theorem flatMap_places_eq {α β : Type} (f : Option α → List β) (n : Nat) (l : List α) :
    (List.range n).flatMap (fun i => f l[i]?) =
      (l.take n).flatMap (fun x => f (some x)) ++ (List.replicate (n - l.length) (f none)).flatten := by
  rw [List.flatMap_def, places_eq, List.flatten_append, List.flatMap_def]

/-! ### GET_READING and GET_CONTACT (R16, R34) -/

theorem readingFlags_eq (r : Reading) (b : Bool) : readingFlags r b =
    BitVec.ofNat 8 (r.present.toNat + 2 * r.valid.toNat + 4 * r.saturated.toNat + if b = true then 8 else 0) := by
  unfold readingFlags
  cases r.present <;> cases r.valid <;> cases r.saturated <;> cases b <;> rfl

theorem FrontEnd.channelBytes_eq (f : FrontEnd) (c : ChannelNo) : f.channelBytes c =
    [BitVec.ofNat 8 ((look f.last c).present.toNat + 2 * (look f.last c).valid.toNat +
        4 * (look f.last c).saturated.toNat + if chanRole c = .refl ∧
          (look f.ratio (chanDegree c)).evaluated = true then 8 else 0)] ++
      halfBytes ((look f.last c).raw.setWidth 16) ++ halfBytes (BitVec.ofInt 16 (look f.last c).value) ++
      if chanRole c = .refl then halfBytes (BitVec.ofInt 16 (look f.ratio (chanDegree c)).r) else [] := by
  unfold FrontEnd.channelBytes
  simp only [readingFlags_eq, Bool.and_eq_true, beq_iff_eq]
  rfl

theorem execGetReading_reply (s : State) {a b : Byte} (hb : 1 ≤ b.toNat) (hab : a.toNat + b.toNat ≤ 16) :
    exec (.getReading a b) s = .next (s.answer (.getReading a b) ([0x00, a, b] ++
      ((List.finRange 16).filter fun c => decide (a.toNat ≤ c.val ∧ c.val < a.toNat + b.toNat)).flatMap
        s.front.channelBytes)) := by
  show Host.Outcome.next (State.serve _ (s.takeGetReading a b)) = _
  rw [State.takeGetReading, if_pos ⟨by omega, hb, hab⟩]
  simp only [Bool.decide_and]
  rfl

theorem contactBytes_eq (k : Contact) : contactBytes k =
    [match k.use with
      | .guard => 0
      | .key => 1
      | .unused => 2,
      if k.openLevel = .high then 1 else 0, (k.degree.map fun d => BitVec.ofNat 8 d.val).getD 0xFF,
      BitVec.ofNat 8 k.debounce, if k.level = k.openLevel then 1 else 0, if k.accepted then 1 else 0] ++
    timerBytes k.timer := by
  have huse : useByte k.use = match k.use with
      | .guard => 0
      | .key => 1
      | .unused => 2 := by cases k.use <;> rfl
  have hlevel : levelByte k.openLevel = if k.openLevel = .high then 1 else 0 := by cases k.openLevel <;> rfl
  rw [contactBytes, huse, hlevel, optByte_eq]
  simp [boolByte, Contact.readsOpen, byteOf]

theorem execGetContact_reply (s : State) {f : ContactNo → List Byte} (hf : ∀ k, contactBytes (s.contact k) = f k) :
    exec .getContact s = .next (s.answer .getContact
      ([0x00] ++ (List.finRange 8).flatMap f ++
        [if s.cond.shut.asserted then 1 else 0, if s.cond.shut.raised then 1 else 0] ++
        timerBytes s.cond.shut.delay)) := by
  rw [← funext hf]
  rfl

/-! ### GET_CONDITIONS (R37) -/

theorem condRecordBytes_eq (r : CondRecord) : condRecordBytes r = keyBytes r.key ++ wordBytes r.raisedAt ++
    [if r.pending then 1 else 0, if r.clearDue = none then 0 else 1, BitVec.ofNat 8 r.matched.length,
      (r.matched.head?.map fun e => BitVec.ofNat 8 e.val).getD 0xFF, r.withheld.setWidth 8] := by
  rw [condRecordBytes, optByte_eq, primaryOf]
  cases r.clearDue <;> simp [boolByte, byteOf, setByte]

theorem execGetConditions_page (s : State) {a : Byte} (ha : a.toNat ≤ 52) :
    exec (.getConditions a 0) s = .next (s.answer (.getConditions a 0)
      ([0x00, BitVec.ofNat 8 s.cond.active.length, BitVec.ofNat 8 (min 8 (s.cond.active.length - a.toNat))] ++
        ((s.cond.active.drop a.toNat).take 8).flatMap condRecordBytes)) := by
  show Host.Outcome.next (State.serve _ (s.takeGetConditions a 0)) = _
  rw [State.takeGetConditions, if_pos ⟨ha, rfl⟩]
  simp only [List.length_take, List.length_drop]
  rfl

theorem takeGetConditions_detail (s : State) {a : Byte} (ha : a.toNat ≤ 52) : s.takeGetConditions a 1 =
    (s, [0x00, BitVec.ofNat 8 s.cond.active.length,
      BitVec.ofNat 8 ((s.cond.active.drop a.toNat).take 1).length] ++
      ((s.cond.active.drop a.toNat).take 1).flatMap fun r =>
        condRecordBytes r ++ r.matched.map fun e => BitVec.ofNat 8 e.val) := by
  rw [State.takeGetConditions, if_neg (fun h => absurd h.2 (by decide)), if_pos ⟨ha, rfl⟩]
  rfl

theorem take_one_drop {α : Type} (l : List α) (n : Nat) : (l.drop n).take 1 = l[n]?.toList := by
  rw [List.take_one, List.head?_drop]

theorem execGetConditions_record (s : State) {a : Byte} (ha : a.toNat ≤ 52) {r : CondRecord}
    (hr : s.cond.active[a.toNat]? = some r) :
    exec (.getConditions a 1) s = .next (s.answer (.getConditions a 1)
      ([0x00, BitVec.ofNat 8 s.cond.active.length, 1] ++ condRecordBytes r ++
        r.matched.map fun e => BitVec.ofNat 8 e.val)) := by
  show Host.Outcome.next (State.serve _ (s.takeGetConditions a 1)) = _
  rw [takeGetConditions_detail s ha, take_one_drop, hr]
  simp [State.serve]

theorem execGetConditions_beyond (s : State) {a : Byte} (ha : a.toNat ≤ 52) (hl : s.cond.active.length ≤ a.toNat) :
    exec (.getConditions a 1) s = .next (s.answer (.getConditions a 1)
      [0x00, BitVec.ofNat 8 s.cond.active.length, 0]) := by
  show Host.Outcome.next (State.serve _ (s.takeGetConditions a 1)) = _
  rw [takeGetConditions_detail s ha, List.drop_eq_nil_of_le hl]
  rfl

/-! ### GET_ENTRY (R47) -/

theorem contentBytes_eq (c : EntryContent) : contentBytes c = keyBytes c.key ++
    [BitVec.ofNat 8 c.cls.val, BitVec.ofNat 8 c.actions.length] ++
    ((c.actions.take 4).flatMap fun x => [BitVec.ofNat 8 x.source.val, ceilingByte x.ceiling,
      persistenceByte x.persistence]) ++
    (List.replicate (4 - c.actions.length) [0xFF, 0x00, 0x00]).flatten ++ [c.cut.setWidth 8, c.withhold.setWidth 8] := by
  rw [contentBytes, flatMap_places_eq, ← List.append_assoc]
  rfl

theorem execGetEntry_reply (s : State) (e : EntryNo) :
    exec (.getEntry (BitVec.ofNat 8 e.val)) s =
      .next (s.answer (.getEntry (BitVec.ofNat 8 e.val)) (0x00 :: entryBytes (s.entry e))) := by
  show Host.Outcome.next (State.serve _ (s.takeGetEntry _)) = _
  rw [State.takeGetEntry, index?_ofNat (by decide)]
  rfl

/-! ### TEST_KEY (R58) -/

theorem testMatches_pairwise (s : State) (k : Key) (p f : Byte) : (s.testMatches k p f).Pairwise (· < ·) :=
  (List.pairwise_lt_finRange 64).filter _

theorem Entry.inPopulation_eq_some (p : Byte) (x : Entry) (c : EntryContent) :
    x.inPopulation p = some c ↔ (x = .live c ∧ (p = 1 ∨ p = 3)) ∨ (x = .parked c ∧ (p = 2 ∨ p = 3)) := by
  cases x <;> simp [Entry.inPopulation, and_comm]

theorem partMatches_iff {α : Type} [DecidableEq α] (x y : Option α) : partMatches x y = true ↔ x = none ∨ x = y := by
  simp [partMatches]

theorem keyMatches_iff (x y : Key) : keyMatches x y = true ↔
    x.kind = y.kind ∧ (x.degree = none ∨ x.degree = y.degree) ∧ (x.detail = none ∨ x.detail = y.detail) := by
  simp [keyMatches, partMatches_iff, and_assoc]

theorem mem_testMatches (s : State) (k : Key) (p f : Byte) (e : EntryNo) : e ∈ s.testMatches k p f ↔
    ∃ c, ((s.entry e = .live c ∧ (p = 1 ∨ p = 3)) ∨ (s.entry e = .parked c ∧ (p = 2 ∨ p = 3))) ∧
      (f = 1 ∨ s.profile.mask.getLsbD c.cls = true) ∧ c.key.kind = k.kind ∧
      (c.key.degree = none ∨ c.key.degree = k.degree) ∧ (c.key.detail = none ∨ c.key.detail = k.detail) := by
  simp only [← Entry.inPopulation_eq_some, ← keyMatches_iff]
  rw [State.testMatches, List.mem_filter, and_iff_right (List.mem_finRange e)]
  cases (s.entry e).inPopulation p <;> simp

theorem execTestKey_reply (s : State) {key : RawKey} {k : Key} (hk : SpellsTestedKey key k) {a b : Byte}
    (ha : 1 ≤ a.toNat) (ha3 : a.toNat ≤ 3) (hb : b.toNat ≤ 1) :
    exec (.testKey key a b) s = .next (s.answer (.testKey key a b)
      ([0x00, BitVec.ofNat 8 (s.testMatches k a b).length] ++
        ((s.testMatches k a b).take 16).map (fun e => BitVec.ofNat 8 e.val) ++
        List.replicate (16 - (s.testMatches k a b).length) 0xFF)) := by
  show Host.Outcome.next (State.serve _ (s.takeTestKey key a b)) = _
  rw [State.takeTestKey, (testedKey?_eq_some ..).mpr hk]
  simp only [if_pos (show 1 ≤ a.toNat ∧ a.toNat ≤ 3 ∧ b.toNat ≤ 1 from ⟨ha, ha3, hb⟩), places_eq]
  rfl

/-- Settles O22, request by request. -/
theorem queriesOfReadingsConditionsAndTheMap : Obligations.QueriesOfReadingsConditionsAndTheMap := by
  refine ⟨keyBytes_eq, fun s a b => ⟨fun hb hab => ?_, ?_, fun ha => ⟨?_, ?_⟩, ?_, fun key k hk ha ha3 hb =>
    ⟨s.testMatches k a b, testMatches_pairwise .., mem_testMatches s k a b, execTestKey_reply s hk ha ha3 hb⟩⟩⟩
  · rw [execGetReading_reply s hb hab, funext s.front.channelBytes_eq]
  · exact execGetContact_reply s fun k => contactBytes_eq (s.contact k)
  · rintro rfl
    rw [execGetConditions_page s ha, funext condRecordBytes_eq]
  · rintro rfl
    exact ⟨fun r hr => (execGetConditions_record s ha hr).trans (by rw [condRecordBytes_eq]),
      execGetConditions_beyond s ha⟩
  · rintro _ e rfl
    refine ⟨fun h => ?_, fun c h => ?_, fun c h => ?_⟩
    · rw [execGetEntry_reply, h]
      rfl
    · rw [execGetEntry_reply, h, entryBytes, contentBytes_eq]
      rfl
    · rw [execGetEntry_reply, h, entryBytes, contentBytes_eq]
      rfl

end Sys2Proof.Machine
end

section
/-! O25: the codes of fields, and the refusal of every field out of its range. -/

namespace Sys2Proof.Machine

/-! ### Bytes of a field, high byte first (R177) -/

theorem extractByte_eq {w : Nat} (x : BitVec w) (k : Nat) : x.extractLsb' k 8 = BitVec.ofNat 8 (x.toNat / 2 ^ k) := by
  rw [← Nat.shiftRight_eq_div_pow]
  rfl

theorem halfBytes_eq (h : Half) : halfBytes h = [BitVec.ofNat 8 (h.toNat / 256), BitVec.ofNat 8 h.toNat] := by
  rw [halfBytes, extractByte_eq, extractByte_eq, Nat.pow_zero, Nat.div_one]
  rfl

theorem wordBytes_eq (w : Word32) : wordBytes w = [BitVec.ofNat 8 (w.toNat / 16777216),
    BitVec.ofNat 8 (w.toNat / 65536), BitVec.ofNat 8 (w.toNat / 256), BitVec.ofNat 8 w.toNat] := by
  rw [wordBytes, extractByte_eq, extractByte_eq, extractByte_eq, extractByte_eq, Nat.pow_zero, Nat.div_one]
  rfl

/-! ### Readers of a field out of its range -/

theorem index?_eq_none {n : Nat} {b : Byte} (h : n ≤ b.toNat) : index? n b = none := dif_neg (Nat.not_lt.mpr h)

theorem set?_eq_none {b : Byte} (h : 16 ≤ b.toNat) : set? b = none := if_neg (Nat.not_lt.mpr h)

theorem ne_of_toNat_lt {b : Byte} {n : Nat} (h : n < b.toNat) : b ≠ BitVec.ofNat 8 n := by
  rintro rfl
  exact absurd h (Nat.not_lt.mpr (Nat.mod_le ..))

theorem switch?_eq_none {b : Byte} (h : 2 ≤ b.toNat) : switch? b = none :=
  (if_neg (ne_of_toNat_lt (n := 0) (by omega))).trans (if_neg (ne_of_toNat_lt (n := 1) (by omega)))

theorem hold?_eq_none {b : Byte} (h : 4 ≤ b.toNat) : hold? b = none :=
  (if_neg (ne_of_toNat_lt (n := 0) (by omega))).trans <| (if_neg (ne_of_toNat_lt (n := 1) (by omega))).trans <|
    (if_neg (ne_of_toNat_lt (n := 2) (by omega))).trans (if_neg (ne_of_toNat_lt (n := 3) (by omega)))

/-! ### Requests with more than one field: one that is not read refuses the request -/

section
variable (s : State)

theorem State.takeSetSource_refused {i : Byte} (e d : Byte) (x y z : Half) (h : index? 16 i = none) :
    s.takeSetSource i e d x y z = (s, [codeBadValue]) := by
  rw [State.takeSetSource, h]

theorem State.takeHoldSource_refused {i h : Byte} (hnone : index? 16 i = none ∨ hold? h = none) :
    s.takeHoldSource i h = (s, [codeBadValue]) := by
  unfold State.takeHoldSource
  split
  · next hi hh => simp [hi, hh] at hnone
  · rfl

theorem State.takeSetProfile_refused {p d auto mask : Byte} (l : RawLimits)
    (hnone : index? 2 p = none ∨ index? 4 d = none ∨ switch? auto = none ∨ set? mask = none) :
    s.takeSetProfile p d l auto mask = (s, [codeBadValue]) := by
  unfold State.takeSetProfile
  split
  · next hp hd ha hm => simp [hp, hd, ha, hm] at hnone
  · rfl

theorem State.takeGetProfile_refused {p d : Byte} (hnone : index? 2 p = none ∨ index? 4 d = none) :
    s.takeGetProfile p d = (s, [codeBadValue]) := by
  unfold State.takeGetProfile
  split
  · next hp hd => simp [hp, hd] at hnone
  · rfl

theorem State.takeReadCapture_refused {b page : Byte} (hnone : index? 2 b = none ∨ index? 8 page = none) :
    s.takeReadCapture b page = (s, [codeBadValue]) := by
  unfold State.takeReadCapture
  split
  · next hb hp => simp [hb, hp] at hnone
  · rfl

theorem State.takeSetContact_refused {k : Byte} (u l d t : Byte) (h : index? 8 k = none) :
    s.takeSetContact k u l d t = (s, [codeBadValue]) := by
  rw [State.takeSetContact, h]

theorem State.takeGetReading_refused {a b : Byte} (h : 16 ≤ a.toNat ∨ b = 0 ∨ 16 < a.toNat + b.toNat) :
    s.takeGetReading a b = (s, [codeBadValue]) := by
  refine if_neg fun ⟨ha, hb, hab⟩ => ?_
  rcases h with h | rfl | h
  · omega
  · exact absurd hb (by decide)
  · omega

theorem State.takeGetConditions_refused {a b : Byte} (h : 53 ≤ a.toNat ∨ 2 ≤ b.toNat) :
    s.takeGetConditions a b = (s, [codeBadValue]) := by
  have hform : ∀ n, n < 2 → ¬(a.toNat ≤ 52 ∧ b = BitVec.ofNat 8 n) := fun n hn ⟨ha, hb⟩ =>
    h.elim (fun h => by omega) fun h => ne_of_toNat_lt (by omega) hb
  exact (if_neg (hform 0 (by decide))).trans (if_neg (hform 1 (by decide)))

theorem State.takeTestKey_refused {k : RawKey} {a b : Byte}
    (h : (∀ q, ¬SpellsTestedKey k q) ∨ a = 0 ∨ 4 ≤ a.toNat ∨ 2 ≤ b.toNat) :
    s.takeTestKey k a b = (s, [codeBadValue]) := by
  unfold State.takeTestKey
  split
  · rfl
  · next q hq =>
    refine if_neg fun ⟨ha, ha3, hb⟩ => ?_
    rcases h with h | rfl | h | h
    · exact h q ((testedKey?_eq_some ..).mp hq)
    · exact absurd ha (by decide)
    · omega
    · omega

end

/-! ### Degree lists (R146, R150, R169) -/

theorem degrees?_eq_none {a : Byte} {n : List Byte} (h : ∀ m, ¬NamesDegrees a n m) : degrees? a n = none :=
  Option.eq_none_iff_forall_ne_some.mpr fun m hm => h m ((degrees?_eq_some ..).mp hm)

theorem degreesFit_iff (a : Byte) (n : List Byte) : degreesFit a n = true ↔
    (n.length = 1 ∨ n.length = 2) ∧ (1 ≤ a.toNat → a.toNat ≤ 2 → n.length = a.toNat) := by
  simp only [degreesFit, Bool.and_eq_true, Bool.or_eq_true, Bool.not_eq_true', decide_eq_true_eq, Bool.and_eq_false_iff,
    decide_eq_false_iff_not]
  omega

/-- A request with a degree list is refused by its list's length, or by a list that names no set. -/
theorem degreeList_refused {s : State} {i : Instr} {a : Byte} {n : List Byte} {r : State × List Byte}
    (hi : exec i s = .next (State.serve i (refuseIllFormed (degreesFit a n) s r)))
    (hr : degrees? a n = none → r = (s, [codeBadValue])) :
    ((n.length = 1 ∨ n.length = 2) → (1 ≤ a.toNat → a.toNat ≤ 2 → n.length = a.toNat) →
      (∀ m, ¬NamesDegrees a n m) → exec i s = .next (s.answer i [0x12])) ∧
    ((n.length ≠ 1 ∧ n.length ≠ 2) ∨ (1 ≤ a.toNat ∧ a.toNat ≤ 2 ∧ n.length ≠ a.toNat) →
      exec i s = .next (s.answer i [0x11])) := by
  rw [hi]
  constructor
  · intro hlen hcount hnames
    rw [(degreesFit_iff a n).mpr ⟨hlen, hcount⟩, hr (degrees?_eq_none hnames)]
    rfl
  · intro hbad
    have hfit : degreesFit a n = false :=
      Bool.eq_false_iff.mpr fun h => by
        obtain ⟨hlen, hcount⟩ := (degreesFit_iff a n).mp h
        omega
    rw [hfit]
    rfl

theorem State.spanCommit_refused (s : State) {a : Byte} {n : List Byte} (pre : Degree → Reason)
    (change : State → Degree → State) (ok : Byte) (h : degrees? a n = none) :
    s.spanCommit a n pre change ok = (s, [codeBadValue]) := by
  rw [State.spanCommit, h]

theorem State.takeClaim_refused (s : State) {a : Byte} {n : List Byte} (h : degrees? a n = none) :
    s.takeClaim a n = (s, [codeBadValue]) := by
  rw [State.takeClaim, h]

/-- What a request that its block refuses answers. -/
theorem serve_refused {s : State} (i : Instr) {r : State × List Byte} (h : r = (s, [codeBadValue])) :
    (.next (State.serve i r) : Result) = .next (s.answer i [0x12]) := by
  rw [h]
  rfl

/-- Settles O25: the codes are the tables of R183, and each reader refuses what is out of its range. -/
theorem fieldsAreCodedAndOutOfRangeIsRefused : Obligations.FieldsAreCodedAndOutOfRangeIsRefused := by
  refine ⟨⟨rfl, rfl, rfl, fun _ => rfl, rfl, rfl, rfl, rfl, rfl, rfl, rfl⟩, fun h w t =>
    ⟨halfBytes_eq h, wordBytes_eq w, ?_⟩, fun s a b c x y z k l g n => ⟨?_, ?_, ?_, ?_, ?_, ?_, ?_, ?_, ?_⟩⟩
  · cases t <;> rfl
  · intro ha
    have hindex : index? 16 a = none := index?_eq_none ha
    simp only [List.forall_mem_cons]
    refine ⟨serve_refused _ ?_, serve_refused _ (s.takeSetSource_refused b c x y z hindex),
      serve_refused _ (s.takeHoldSource_refused (.inl hindex)), serve_refused _ ?_, serve_refused _ ?_,
      serve_refused _ (s.takeGetReading_refused (.inl ha)), serve_refused _ ?_,
      serve_refused _ (s.takeSetProfile_refused l (.inr (.inr (.inr (set?_eq_none ha))))), List.forall_mem_nil _⟩
    · rw [State.takeSetChannel, hindex]
    · rw [State.takeReleaseLatch, hindex]
    · rw [State.takeGetSource, hindex]
    · rw [State.takeSetNotify, set?_eq_none ha]
  · intro ha
    have hindex : index? 64 a = none := index?_eq_none ha
    simp only [List.forall_mem_cons]
    refine ⟨serve_refused _ ?_, serve_refused _ ?_, serve_refused _ ?_, serve_refused _ ?_, List.forall_mem_nil _⟩
    · rw [State.takeParkEntry, hindex]
    · rw [State.takeUnparkEntry, hindex]
    · rw [State.takeFreeEntry, hindex]
    · rw [State.takeGetEntry, hindex]
  · exact fun ha => serve_refused _ (s.takeGetConditions_refused (.inl ha))
  · intro ha
    have hindex : index? 4 a = none := index?_eq_none ha
    simp only [List.forall_mem_cons]
    refine ⟨serve_refused _ ?_, serve_refused _ ?_, serve_refused _ ?_, serve_refused _ ?_,
      serve_refused _ (s.takeHoldSource_refused (.inr (hold?_eq_none ha))),
      serve_refused _ (s.takeSetProfile_refused l (.inr (.inl hindex))),
      serve_refused _ (s.takeGetProfile_refused (.inr hindex)), List.forall_mem_nil _⟩
    · rw [State.takeSetSpan, hindex]
    · rw [State.takeLockRequest, hindex]
    · rw [State.takeGetSpan, hindex]
    · rw [State.takeGetLine, hindex]
  · intro ha
    have hindex : index? 2 a = none := index?_eq_none ha
    simp only [List.forall_mem_cons]
    refine ⟨serve_refused _ (s.takeSetProfile_refused l (.inl hindex)),
      serve_refused _ (s.takeGetProfile_refused (.inl hindex)), serve_refused _ ?_,
      serve_refused _ (s.takeReadCapture_refused (.inl hindex)), serve_refused _ ?_,
      serve_refused _ (s.takeSetProfile_refused l (.inr (.inr (.inl (switch?_eq_none ha))))),
      serve_refused _ (s.takeGetConditions_refused (.inr ha)), List.forall_mem_nil _⟩
    · rw [State.takeSelectProfile, hindex]
    · rw [State.takeReleaseCapture, hindex]
  · intro ha
    have hindex : index? 8 a = none := index?_eq_none ha
    simp only [List.forall_mem_cons]
    exact ⟨serve_refused _ (s.takeReadCapture_refused (.inr hindex)),
      serve_refused _ (s.takeSetContact_refused b c c c hindex), List.forall_mem_nil _⟩
  · exact fun h => serve_refused _ (s.takeGetReading_refused (.inr h))
  · exact fun h => serve_refused _ (s.takeTestKey_refused h)
  · simp only [List.forall_mem_cons]
    exact ⟨degreeList_refused rfl s.takeClaim_refused, degreeList_refused rfl (s.spanCommit_refused _ _ _),
      degreeList_refused rfl (s.spanCommit_refused _ _ _), degreeList_refused rfl (s.spanCommit_refused _ _ _),
      List.forall_mem_nil _⟩

end Sys2Proof.Machine
end

section
/-! SUPPORT and O48. What a raise (R19, R22) and a clear (R21, R22) write, one equation per case, and the line
conditions and timers that decide them (R128, R129). -/

namespace Sys2Proof.Machine

/-! ### Touch numbers and the active condition list (R18, R145) -/

theorem State.look_touch (s : State) (d : Option Degree) (e : Degree) :
    look (s.touch d).cond.touch e = if d = none ∨ d = some e then look s.cond.touch e + 1 else look s.cond.touch e := by
  cases d with
  | none => simp [State.touch]
  | some d =>
    simp only [State.touch, look_put, reduceCtorEq, false_or, Option.some.injEq]
    exact ite_congr rfl (fun h => by rw [h]) fun _ => rfl

/-- With no record of a key in the list none is found. -/
theorem State.record?_eq_none {s : State} {k : Key} (h : ∀ r ∈ s.cond.active, r.key ≠ k) : s.record? k = none :=
  List.find?_eq_none.mpr fun r hr => by simpa using h r hr

/-- The record a raise appends (R19). -/
def State.newRecord (s : State) (k : Key) : CondRecord :=
  { key := k, raisedAt := s.now, pending := true, clearDue := none, matched := [], withheld := 0 }

/-! ### Raise (R19, R22) -/

/-- The state after the raise of a key that has no record (R19). -/
def State.raised (s : State) (k : Key) : State :=
  { s with
    cond := { s.cond with active := s.cond.active ++ [s.newRecord k], touch := (s.touch k.degree).cond.touch }
    map := { s.map with queue := s.map.queue ++ [.key k] }
    transit := { s.transit with toClaim := s.transit.toClaim ++ [.notice (.condition k.degree)] } }

theorem State.look_touch_raised (s : State) (k : Key) (e : Degree) :
    look (s.raised k).cond.touch e =
      if k.degree = none ∨ k.degree = some e then look s.cond.touch e + 1 else look s.cond.touch e := s.look_touch _ e

theorem State.raise_of_none {s : State} {k : Key} (h : s.record? k = none) : s.raise k = s.raised k := by
  rw [State.raise, h]
  rfl

theorem State.raise_of_clearDue {s : State} {k : Key} {r : CondRecord} (h : s.record? k = some r)
    (hp : r.pending = true) (hc : r.clearDue ≠ none) :
    s.raise k = s.updateRecord k fun x => { x with clearDue := none } := by
  rw [State.raise, h]
  exact if_pos (by rw [hp, Option.isSome_iff_ne_none.mpr hc]; rfl)

theorem State.raise_of_standing {s : State} {k : Key} {r : CondRecord} (h : s.record? k = some r)
    (hr : r.pending = false ∨ r.clearDue = none) : s.raise k = s := by
  rw [State.raise, h]
  refine if_neg ?_
  rcases hr with hr | hr <;> simp [hr]

/-! ### Clear (R21, R22) -/

/-- The state after the clear of a record of `k` that withheld `w`, before a contact's raise that waited for it. -/
def State.cleared (s : State) (k : Key) (w : DegSet) (c : ClearCause) : State :=
  { s with
    cond := { s.cond with
      active := s.cond.active.filter fun x => x.key ≠ k
      touch := (s.touch k.degree).cond.touch }
    transit := { s.transit with
      reports := s.transit.reports ++ [{ report := .cleared k s.now c, afterSpan := false }]
      toGrant := s.transit.toGrant ++ [.clear k]
      toSpan := s.transit.toSpan ++ [.clear k w]
      toClaim := s.transit.toClaim ++ [.notice (.condition k.degree)] } }

theorem State.look_touch_cleared (s : State) (k : Key) (w : DegSet) (c : ClearCause) (e : Degree) :
    look (s.cleared k w c).cond.touch e =
      if k.degree = none ∨ k.degree = some e then look s.cond.touch e + 1 else look s.cond.touch e := s.look_touch _ e

theorem State.takeClear_eq (s : State) (r : CondRecord) (c : ClearCause) :
    s.takeClear r c = (s.cleared r.key r.withheld c).takeWaitingRaise r.key := by
  have hfilter : (fun x : CondRecord => x.key != r.key) = fun x => decide (x.key ≠ r.key) :=
    funext fun x => Bool.eq_iff_iff.mpr (by simp)
  rw [State.takeClear, hfilter]
  rfl

theorem State.takeWaitingRaise_of_waiting (s : State) {k x : Key} {n : ContactNo} (hk : k.detail = some (.contact n))
    (hx : (s.contact n).waiting = some x) :
    s.takeWaitingRaise k = (s.setContact n { s.contact n with waiting := none }).raise x := by
  simp only [State.takeWaitingRaise, hk, hx]

theorem State.takeWaitingRaise_of_not_waiting (s : State) {k : Key}
    (h : ∀ n, k.detail = some (.contact n) → (s.contact n).waiting = none) : s.takeWaitingRaise k = s := by
  unfold State.takeWaitingRaise
  split
  · next n hn => rw [h n hn]
  · rfl
  · rfl

theorem State.clearDue_of_none {s : State} {k : Key} (h : s.record? k = none) (c : ClearCause) :
    s.clearDue k c = s := by
  rw [State.clearDue, h]

theorem State.clearDue_of_pending {s : State} {k : Key} {r : CondRecord} (h : s.record? k = some r)
    (hp : r.pending = true) (c : ClearCause) :
    s.clearDue k c = s.updateRecord k fun x => { x with clearDue := some c } := by
  rw [State.clearDue, h]
  exact if_pos hp

theorem State.clearDue_of_not_pending {s : State} {k : Key} {r : CondRecord} (h : s.record? k = some r)
    (hp : r.pending = false) (c : ClearCause) : s.clearDue k c = (s.cleared k r.withheld c).takeWaitingRaise k := by
  rw [State.clearDue, h, ← State.record?_key h, ← s.takeClear_eq r c]
  exact if_neg (Bool.eq_false_iff.mp hp)

/-! ### The line timer (R129) -/

theorem execLineTimerExpiry_running {d : Degree} {s : State} (h : (s.line d).timer ≠ some 0) :
    exec (.lineTimerExpiry d) s = .next s := if_neg h

theorem execLineTimerExpiry_expired {d : Degree} {s : State} (h : (s.line d).timer = some 0) :
    exec (.lineTimerExpiry d) s =
      .next ((s.setLine d { s.line d with lost := true, recovery := 0, timer := none }).lineDecides
        (degreeKey .lineLost d) (s.line d).lost true) := if_pos h

/-- Settles O48: a raise and a clear by whether the key has a record and whether that is pending, and the line timer by
whether it has run out. -/
theorem raisesAndClearsAtTheConditionUnit : Obligations.RaisesAndClearsAtTheConditionUnit := by
  refine ⟨fun k c s => ⟨fun h => ?_, fun r h => ⟨?_, ?_, ?_, ?_⟩⟩, fun d s => ⟨execLineTimerExpiry_running, fun h => ?_,
    fun k => ⟨rfl, rfl, rfl, rfl⟩⟩⟩
  · rw [State.raise_of_none h]
    exact ⟨rfl, s.look_touch_raised k, rfl, State.clearDue_of_none h c⟩
  · exact fun ⟨hp, hc⟩ => State.raise_of_clearDue h hp hc
  · exact State.raise_of_standing h
  · exact fun hp => State.clearDue_of_pending h hp c
  · intro hp
    rw [State.clearDue_of_not_pending h hp]
    exact ⟨s.cleared k r.withheld c, s.look_touch_cleared k r.withheld c, rfl,
      fun _ _ hn hx => (s.cleared k r.withheld c).takeWaitingRaise_of_waiting hn hx,
      fun hn => (s.cleared k r.withheld c).takeWaitingRaise_of_not_waiting hn⟩
  · rw [execLineTimerExpiry_expired h]
    exact ⟨_, rfl, fun hl => by rw [hl]; rfl, fun hl => by rw [hl]; rfl⟩

end Sys2Proof.Machine
end

section
/-! O16 and O19: the forced clear of REFLECT (R29), and the master-shut input (R35). -/

namespace Sys2Proof.Machine

theorem State.clearDue_of_not_pending_no_contact {s : State} {k : Key} (hk : ∀ n, k.detail ≠ some (.contact n))
    {r : CondRecord} (h : s.record? k = some r) (hp : r.pending = false) (c : ClearCause) :
    s.clearDue k c = s.cleared k r.withheld c := by
  rw [State.clearDue_of_not_pending h hp, State.takeWaitingRaise_of_no_contact _ hk]

/-! ### FORCED_CLEAR (R29) -/

theorem State.look_touch_cleared_degreeKey (s : State) (k : Kind) (d : Degree) (w : DegSet) (c : ClearCause)
    (e : Degree) :
    look (s.cleared (degreeKey k d) w c).cond.touch e =
      if e = d then look s.cond.touch e + 1 else look s.cond.touch e :=
  (s.look_touch_cleared _ w c e).trans (if_congr (by simp [degreeKey, eq_comm]) rfl rfl)

/-- The state with the dark entry of `d` taken and the REFLECT qualifier of `d` clear. -/
def State.reflectEnded (s : State) (d : Degree) : State :=
  { s with
    cond := { s.cond with refl := put s.cond.refl d clearQualifier }
    transit := { s.transit with forced := s.transit.forced.erase d } }

theorem execForcedClear_eq {d : Degree} {s : State} (h : d ∈ s.transit.forced) :
    exec (.forcedClear d) s = .next (if (look s.cond.refl d).raised = true then
      (s.reflectEnded d).clearDue (degreeKey .reflect d) .spanDark else s.reflectEnded d) := if_pos h

/-- Neither the clear nor its absence writes a qualifier. -/
theorem State.refl_of_reflectEnded (s : State) (d : Degree) :
    (if (look s.cond.refl d).raised = true then (s.reflectEnded d).clearDue (degreeKey .reflect d) .spanDark
      else s.reflectEnded d).cond.refl = put s.cond.refl d clearQualifier := by
  split
  · obtain ⟨x, hx⟩ := (s.reflectEnded d).clearDue_eq_withDecision (degreeKey_no_contact .reflect d) .spanDark
    rw [hx]
    rfl
  · rfl

/-- Settles O16, by the qualifier, and where it was RAISED by the record. -/
theorem aForcedClearEndsReflect : Obligations.AForcedClearEndsReflect := by
  intro d s h
  have hrefl := s.refl_of_reflectEnded d
  refine ⟨_, execForcedClear_eq h, by rw [hrefl]; exact look_put_same .., fun e he => ?_, fun hnone => ?_,
    fun r hraised hr => ⟨fun hp => ?_, fun hp => ?_⟩⟩
  · rw [hrefl]
    exact look_put_ne _ _ he.symm
  · rw [hrefl]
    split
    · next hraised =>
      have hrecord := hnone.resolve_left (ne_false_of_eq_true hraised)
      exact State.clearDue_of_none (s := s.reflectEnded d) hrecord _
    · rfl
  · rw [hrefl, if_pos hraised, State.clearDue_of_pending (s := s.reflectEnded d) hr hp]
    rfl
  · rw [if_pos hraised,
      State.clearDue_of_not_pending_no_contact (s := s.reflectEnded d) (degreeKey_no_contact _ d) hr hp]
    exact ⟨rfl, (s.reflectEnded d).look_touch_cleared_degreeKey .reflect d _ _⟩

/-! ### The master-shut input (R35) -/

theorem shutKey_no_contact (n : ContactNo) : shutKey.detail ≠ some (.contact n) := by
  simp [shutKey]

theorem State.record?_setShut (s : State) {k : Key} {o : Option CondRecord} (h : s.record? k = o) (m : MasterShut) :
    (s.setShut m).record? k = o := h

/-- MASTER_SHUT has no degree, so it counts every touch number. -/
theorem State.look_touch_raised_shutKey (s : State) (d : Degree) :
    look (s.raised shutKey).cond.touch d = look s.cond.touch d + 1 :=
  (s.look_touch_raised shutKey d).trans (if_pos (.inl rfl))

theorem State.look_touch_cleared_shutKey (s : State) (w : DegSet) (c : ClearCause) (d : Degree) :
    look (s.cleared shutKey w c).cond.touch d = look s.cond.touch d + 1 :=
  (s.look_touch_cleared shutKey w c d).trans (if_pos (.inl rfl))

theorem execMasterShutAssertion_raised {s : State} (h : s.cond.shut.raised = true) :
    exec .masterShutAssertion s = .next (s.setShut { asserted := true, raised := true, delay := none }) :=
  congrArg Host.Outcome.next (if_pos h)

theorem execMasterShutAssertion_not_raised {s : State} (h : s.cond.shut.raised = false) :
    exec .masterShutAssertion s =
      .next ((s.setShut { asserted := true, raised := true, delay := none }).raise shutKey) :=
  congrArg Host.Outcome.next (if_neg (Bool.eq_false_iff.mp h))

theorem execClearDelayExpiry_expired {s : State} (h : s.cond.shut.delay = some 0) :
    exec .clearDelayExpiry s =
      .next ((s.setShut { s.cond.shut with raised := false, delay := none }).clearDue shutKey .normal) := if_pos h

/-- Settles O19, by whether MASTER_SHUT is raised, whether the clear delay has run out, and the record. -/
theorem theMasterShutInput : Obligations.TheMasterShutInput := by
  refine fun s => ⟨execMasterShutAssertion_raised, fun h hr => ?_, rfl, fun h => if_neg h, fun r hd hr hp => ?_,
    fun r h hr hp hc => ?_, fun r hd hr hp => ?_⟩
  · refine ⟨_, execMasterShutAssertion_not_raised h, ?_⟩
    rw [State.raise_of_none (s.record?_setShut hr _)]
    exact ⟨rfl, rfl, rfl, State.look_touch_raised_shutKey _, rfl, rfl⟩
  · rw [execClearDelayExpiry_expired hd, State.clearDue_of_pending (s.record?_setShut hr _) hp]
    rfl
  · rw [execMasterShutAssertion_not_raised h, State.raise_of_clearDue (s.record?_setShut hr _) hp hc]
    rfl
  · refine ⟨_, execClearDelayExpiry_expired hd, ?_⟩
    rw [State.clearDue_of_not_pending_no_contact shutKey_no_contact (s.record?_setShut hr _) hp]
    exact ⟨rfl, rfl, rfl, State.look_touch_cleared_shutKey _ _ _, rfl⟩

end Sys2Proof.Machine
end

section
/-! O15: SNAPSHOT_WRITE (R20, R22) and REWRITTEN_SNAPSHOT_WRITE (R143). -/

namespace Sys2Proof.Machine

/-! ### Events handed one after the other -/

theorem foldl_handSpan (s : State) (f : Degree → SpanEvent) (l : List Degree) :
    l.foldl (fun t d => t.handSpan (f d)) s =
      { s with transit := { s.transit with toSpan := s.transit.toSpan ++ l.map f } } := by
  induction l generalizing s with
  | nil => simp
  | cons d l ih =>
    rw [List.foldl_cons, ih, List.map_cons]
    simp [State.handSpan]

theorem State.handReexaminations_eq (s : State) (m : DegSet) : s.handReexaminations m =
    { s with transit := { s.transit with toSpan := s.transit.toSpan ++ (DegSet.toList m).map .reexamine } } :=
  foldl_handSpan s .reexamine _

/-! ### A record replaced and then cleared -/

theorem filter_map_replace (l : List CondRecord) {k : Key} {x : CondRecord} (hx : x.key = k) :
    (l.map fun r => if r.key = k then x else r).filter (fun r => r.key ≠ k) = l.filter fun r => r.key ≠ k := by
  induction l with
  | nil => rfl
  | cons r l ih =>
    by_cases hr : r.key = k
    · simpa [hr, hx] using ih
    · simpa [hr] using ih

/-! ### SNAPSHOT_WRITE -/

/-- The state with the oldest snapshot taken: `rest` is what stands behind it. -/
def State.snapshotTaken (s : State) (rest : List SnapshotEvent) : State :=
  { s with transit := { s.transit with snapshots := rest } }

/-- The record that a lookup's snapshot leaves (R20). -/
def CondRecord.written (r : CondRecord) (m : List EntryNo) (w : DegSet) : CondRecord :=
  { r with pending := false, clearDue := none, matched := m, withheld := w }

/-- The state after a lookup's snapshot for the record `r`, before a clear that had fallen due. -/
def State.snapshotWritten (s : State) (r : CondRecord) (m : List EntryNo) (w : DegSet) : State :=
  ((s.updateRecord r.key fun _ => r.written m w).handReport (.raised r.key r.raisedAt m.length m.head?)
    false).handReexaminations w

theorem State.snapshotWritten_eq (s : State) (r : CondRecord) (m : List EntryNo) (w : DegSet) :
    s.snapshotWritten r m w = { s with
      cond := { s.cond with active := s.cond.active.map fun x => if x.key = r.key then r.written m w else x }
      transit := { s.transit with
        reports := s.transit.reports ++
          [{ report := .raised r.key r.raisedAt m.length m.head?, afterSpan := false }]
        toSpan := s.transit.toSpan ++ (DegSet.toList w).map .reexamine } } :=
  State.handReexaminations_eq ..

theorem State.writeSnapshot_no_clear {s : State} {k : Key} {r : CondRecord} (h : s.record? k = some r)
    (hc : r.clearDue = none) (m : List EntryNo) (w : DegSet) : s.writeSnapshot k m w = s.snapshotWritten r m w := by
  obtain rfl := State.record?_key h
  simp only [State.writeSnapshot, h, hc]
  rfl

/-- A clear that had fallen due follows the snapshot (R22). -/
theorem State.writeSnapshot_clear {s : State} {k : Key} {r : CondRecord} (h : s.record? k = some r) {c : ClearCause}
    (hc : r.clearDue = some c) (m : List EntryNo) (w : DegSet) :
    s.writeSnapshot k m w = ((s.snapshotWritten r m w).cleared k w c).takeWaitingRaise k := by
  obtain rfl := State.record?_key h
  simp only [State.writeSnapshot, h, hc]
  exact (s.snapshotWritten r m w).takeClear_eq (r.written m w) c

theorem execSnapshotWrite_eq {s : State} {k : Key} {m : List EntryNo} {w : DegSet} {rest : List SnapshotEvent}
    (h : s.transit.snapshots = .lookup k m w :: rest) :
    exec .snapshotWrite s = .next ((s.snapshotTaken rest).writeSnapshot k m w) := by
  show execSnapshotWrite s = _
  rw [execSnapshotWrite, h]
  rfl

/-! ### REWRITTEN_SNAPSHOT_WRITE -/

theorem execRewrittenSnapshotWrite_eq {s : State} {k : Key} {m : List EntryNo} {w : DegSet}
    {rest : List SnapshotEvent} (h : s.transit.snapshots = .rewritten k m w :: rest) :
    exec .rewrittenSnapshotWrite s = .next ((s.snapshotTaken rest).rewriteSnapshot k m w) := by
  show execRewrittenSnapshotWrite s = _
  rw [execRewrittenSnapshotWrite, h]
  rfl

theorem State.rewriteSnapshot_discarded {s : State} {k : Key}
    (h : s.record? k = none ∨ ∃ r, s.record? k = some r ∧ r.pending = true) (m : List EntryNo) (w : DegSet) :
    s.rewriteSnapshot k m w = s := by
  unfold State.rewriteSnapshot
  rcases h with h | ⟨r, h, hp⟩
  · rw [h]
  · rw [h]
    exact if_pos hp

theorem State.rewriteSnapshot_written {s : State} {k : Key} {r : CondRecord} (h : s.record? k = some r)
    (hp : r.pending = false) (m : List EntryNo) (w : DegSet) :
    s.rewriteSnapshot k m w =
      (s.updateRecord k fun x => { x with matched := m, withheld := w }).handReexaminations (r.withheld ||| w) := by
  rw [State.rewriteSnapshot, h]
  exact if_neg (Bool.eq_false_iff.mp hp)

/-- Settles O15: the lookup's snapshot by whether a clear has fallen due, the rewritten one by the record it finds. -/
theorem snapshotsAreWritten : Obligations.SnapshotsAreWritten := by
  refine ⟨fun k m w rest r s h hr => ?_, fun k m w rest s h => ⟨fun r hr hp => ?_, fun hnone => ?_⟩⟩
  · rw [execSnapshotWrite_eq h]
    cases hc : r.clearDue with
    | none =>
      rw [State.writeSnapshot_no_clear (s := s.snapshotTaken rest) hr hc]
      obtain rfl := State.record?_key hr
      rw [State.snapshotWritten_eq]
      exact ⟨_, _, rfl, fun _ => ⟨rfl, rfl, rfl⟩, fun _ => nofun, rfl,
        fun n x => State.takeWaitingRaise_of_waiting _, State.takeWaitingRaise_of_not_waiting _⟩
    | some c =>
      rw [State.writeSnapshot_clear (s := s.snapshotTaken rest) hr hc]
      obtain rfl := State.record?_key hr
      refine ⟨_, ((s.snapshotTaken rest).snapshotWritten r m w).cleared r.key w c, rfl, nofun, fun c' hsome => ?_, ?_,
        fun n x => State.takeWaitingRaise_of_waiting _, State.takeWaitingRaise_of_not_waiting _⟩
      · obtain rfl := Option.some.inj hsome
        rw [State.snapshotWritten_eq]
        refine ⟨rfl, filter_map_replace s.cond.active rfl, State.look_touch_cleared _ _ _ _, ?_, rfl⟩
        simp [State.cleared, State.snapshotTaken]
      · rw [State.snapshotWritten_eq]
        rfl
  · rw [execRewrittenSnapshotWrite_eq h, State.rewriteSnapshot_written (s := s.snapshotTaken rest) hr hp,
      State.handReexaminations_eq]
    rfl
  · rw [execRewrittenSnapshotWrite_eq h, State.rewriteSnapshot_discarded (s := s.snapshotTaken rest) hnone]
    rfl

end Sys2Proof.Machine
end

section
/-! O18 and O20: a contact is debounced (R31, R32, R22), and reconfigured (R33). -/

namespace Sys2Proof.Machine

/-! ### The record of a contact, and the key of its condition -/

theorem State.contactRecord?_eq_some (s : State) (n : ContactNo) (r : CondRecord) :
    s.contactRecord? n = some r ↔ ∃ a b, s.cond.active = a ++ r :: b ∧ r.key.detail = some (.contact n) ∧
      ∀ x ∈ a, x.key.detail ≠ some (.contact n) := by
  rw [State.contactRecord?, List.find?_eq_some_iff_append]
  simp only [beq_iff_eq, Bool.not_eq_true', beq_eq_false_iff_ne]
  exact ⟨fun ⟨hr, a, b, hab, ha⟩ => ⟨a, b, hab, hr, ha⟩, fun ⟨a, b, hab, hr, ha⟩ => ⟨hr, a, b, hab, ha⟩⟩

/-- A record before the contact's first has another detail, so another key. -/
theorem State.record?_of_contactRecord? {s : State} {n : ContactNo} {r : CondRecord}
    (h : s.contactRecord? n = some r) : s.record? r.key = some r := by
  obtain ⟨a, b, hab, hr, ha⟩ := (s.contactRecord?_eq_some n r).mp h
  refine List.find?_eq_some_iff_append.mpr ⟨beq_self_eq_true _, a, b, hab, fun x hx => ?_⟩
  have hne : x.key ≠ r.key := fun hkey => ha x hx (hkey ▸ hr)
  simpa using hne

theorem State.detail_of_contactRecord? {s : State} {n : ContactNo} {r : CondRecord}
    (h : s.contactRecord? n = some r) : r.key.detail = some (.contact n) := by
  obtain ⟨-, -, -, hr, -⟩ := (s.contactRecord?_eq_some n r).mp h
  exact hr

theorem contactKey?_of_unused {c : Contact} (h : c.use = .unused) (n : ContactNo) : contactKey? n c = none := by
  rw [contactKey?, h]

theorem contactKey?_of_used {c : Contact} (h : c.use ≠ .unused) (n : ContactNo) :
    contactKey? n c = some { kind := if c.use = .guard then .guardOpen else .keyOpen
                             degree := c.degree, detail := some (.contact n) } := by
  unfold contactKey?
  cases hu : c.use with
  | guard => rfl
  | key => rfl
  | unused => exact absurd hu h

/-! ### A raise and a clear decided for a contact (R22) -/

theorem State.contactRaise_waits {s : State} {n : ContactNo} {k : Key} {r : CondRecord}
    (h : s.contactRecord? n = some r) (hp : r.pending = true) (hc : r.clearDue ≠ none) (hk : r.key ≠ k) :
    s.contactRaise n k = s.setContact n { s.contact n with waiting := some k } := by
  rw [State.contactRaise, h]
  exact if_pos (by simp [hp, hk, Option.isSome_iff_ne_none.mpr hc])

theorem State.contactRaise_taken {s : State} {n : ContactNo} {k : Key}
    (h : ∀ r, s.contactRecord? n = some r → r.pending = false ∨ r.clearDue = none ∨ r.key = k) :
    s.contactRaise n k = s.raise k := by
  unfold State.contactRaise
  split
  · next r hr =>
    refine if_neg ?_
    rcases h r hr with h | h | h <;> simp [h]
  · rfl

theorem State.contactClear_cancels {s : State} {n : ContactNo} {x : Key} (h : (s.contact n).waiting = some x)
    (c : ClearCause) : s.contactClear n c = s.setContact n { s.contact n with waiting := none } := by
  rw [State.contactClear, h]

theorem State.contactClear_clears {s : State} {n : ContactNo} (h : (s.contact n).waiting = none) {r : CondRecord}
    (hr : s.contactRecord? n = some r) (hc : r.clearDue = none) (c : ClearCause) :
    s.contactClear n c = s.clearDue r.key c := by
  rw [State.contactClear, h, hr]
  exact if_neg (by rw [hc]; exact Bool.false_ne_true)

theorem State.contactClear_none {s : State} {n : ContactNo} (h : (s.contact n).waiting = none)
    (hr : ∀ r, s.contactRecord? n = some r → r.clearDue ≠ none) (c : ClearCause) : s.contactClear n c = s := by
  rw [State.contactClear, h]
  cases hrecord : s.contactRecord? n with
  | none => rfl
  | some r => exact if_pos (Option.isSome_iff_ne_none.mpr (hr r hrecord))

/-! ### CONTACT_LEVEL_CHANGE and DEBOUNCE_EXPIRY (R31, R32) -/

theorem Level.other_ne (l : Level) : l.other ≠ l := by
  cases l <;> decide

theorem Contact.readsOpen_eq (c : Contact) : c.readsOpen = decide (c.level = c.openLevel) := rfl

theorem Contact.changeLevel_eq (c : Contact) : c.changeLevel = { c with
    level := c.level.other
    timer := if c.timer.isSome then none
      else if decide (c.level.other = c.openLevel) ≠ c.accepted then some c.debounce else none } := by
  unfold Contact.changeLevel
  cases ht : c.timer with
  | some n => rfl
  | none =>
    by_cases ho : decide (c.level.other = c.openLevel) = c.accepted
    · simp [Contact.readsOpen_eq, ho]
    · simp [Contact.readsOpen_eq, ho]

/-- The state with the present reading of contact `k` accepted (R32). -/
def State.accepted (s : State) (k : ContactNo) : State :=
  s.setContact k { s.contact k with timer := none, accepted := (s.contact k).readsOpen }

theorem State.waiting_accepted (s : State) (k : ContactNo) :
    ((s.accepted k).contact k).waiting = (s.contact k).waiting := by
  rw [State.accepted, State.contact_setContact_same]

section
variable {s : State} {k : ContactNo}

theorem State.acceptContact_unused (ho : (s.contact k).level = (s.contact k).openLevel)
    (hu : (s.contact k).use = .unused) : s.acceptContact k = s.accepted k := by
  have hopen : (s.contact k).readsOpen = true := decide_eq_true ho
  simp only [State.acceptContact, State.accepted, hopen, contactKey?_of_unused hu]

theorem State.acceptContact_open (ho : (s.contact k).level = (s.contact k).openLevel) {key : Key}
    (hkey : contactKey? k (s.contact k) = some key) : s.acceptContact k = (s.accepted k).contactRaise k key := by
  have hopen : (s.contact k).readsOpen = true := decide_eq_true ho
  simp only [State.acceptContact, State.accepted, hopen, hkey]

theorem State.acceptContact_closed (hc : (s.contact k).level ≠ (s.contact k).openLevel) :
    s.acceptContact k = (s.accepted k).contactClear k .normal := by
  have hclosed : (s.contact k).readsOpen = false := decide_eq_false hc
  simp only [State.acceptContact, State.accepted, hclosed]

theorem execDebounceExpiry_expired (h : (s.contact k).timer = some 0) :
    exec (.debounceExpiry k) s = .next (s.acceptContact k) := if_pos h

end

/-- Settles O18, by the timer, the present reading, and what the contact has raised. -/
theorem aContactIsDebounced : Obligations.AContactIsDebounced := by
  refine fun k s => ⟨?_, fun h => if_neg h, fun h => ?_, s.contactRecord?_eq_some k⟩
  · have hcontact : (s.setContact k (s.contact k).changeLevel).contact k = (s.contact k).changeLevel :=
      State.contact_setContact_same ..
    refine ⟨_, rfl, ?_, ?_, fun n hn => look_put_ne _ _ hn.symm, rfl⟩
    · rw [hcontact, Contact.changeLevel_eq]
      exact Level.other_ne _
    · rw [hcontact, Contact.changeLevel_eq]
  · refine ⟨_, s.accepted k, execDebounceExpiry_expired h, rfl,
      fun ho => ⟨State.acceptContact_unused ho, ?_⟩, fun hc => ?_⟩
    · rintro key hu rfl
      rw [State.acceptContact_open ho (contactKey?_of_used hu k)]
      exact ⟨fun ⟨r, hr, hp, hdue, hne⟩ => State.contactRaise_waits (s := s.accepted k) hr hp hdue hne,
        State.contactRaise_taken (s := s.accepted k)⟩
    · rw [State.acceptContact_closed hc]
      exact ⟨fun x hx => State.contactClear_cancels ((s.waiting_accepted k).trans hx) _, fun hw =>
        ⟨fun r hr hdue => State.contactClear_clears ((s.waiting_accepted k).trans hw) hr hdue _,
          fun hdue => State.contactClear_none ((s.waiting_accepted k).trans hw) hdue _⟩⟩

/-! ### SET_CONTACT (R33) -/

theorem use?_useByte (u : ContactUse) : use? (useByte u) = some u := by
  cases u <;> rfl

theorem level?_levelByte (l : Level) : level? (levelByte l) = some l := by
  cases l <;> rfl

theorem use?_eq_none {b : Byte} (h : 3 ≤ b.toNat) : use? b = none :=
  (if_neg (ne_of_toNat_lt (n := 0) (by omega))).trans <| (if_neg (ne_of_toNat_lt (n := 1) (by omega))).trans <|
    (if_neg (ne_of_toNat_lt (n := 2) (by omega)))

theorem level?_eq_none {b : Byte} (h : 2 ≤ b.toNat) : level? b = none :=
  (if_neg (ne_of_toNat_lt (n := 0) (by omega))).trans (if_neg (ne_of_toNat_lt (n := 1) (by omega)))

theorem optIndex?_eq_none {n : Nat} {b : Byte} (h : n ≤ b.toNat) (hb : b ≠ 0xFF) : optIndex? n b = none := by
  exact (if_neg hb).trans (congrArg (Option.map some) (index?_eq_none h))

theorem State.takeSetContact_unread (s : State) {k u l d : Byte} (t : Byte)
    (h : index? 8 k = none ∨ use? u = none ∨ level? l = none ∨ optIndex? 4 d = none) :
    s.takeSetContact k u l d t = (s, [codeBadValue]) := by
  unfold State.takeSetContact
  split
  · next hk hu hl hd => simp [hk, hu, hl, hd] at h
  · rfl

/-- The contact that SET_CONTACT leaves, but for its level and a raise that waits. -/
theorem Contact.reconfigure_eq (c : Contact) (u : ContactUse) (l : Level) (d : Option Degree) (t : Nat) :
    c.reconfigure u l d t =
      { use := u, openLevel := l, degree := d, debounce := t, accepted := false,
        timer := if c.level = l then some t else none, level := c.level, waiting := c.waiting } := by
  unfold Contact.reconfigure
  by_cases h : c.level = l <;> simp [Contact.readsOpen_eq, h]

theorem State.setContact_setContact (s : State) (k : ContactNo) (a b : Contact) :
    (s.setContact k a).setContact k b = s.setContact k b := by
  have hput : put (put s.cond.contacts k a) k b = put s.cond.contacts k b := look_ext fun n => by
    by_cases h : k = n <;> simp [look_put, h]
  exact congrArg (fun v => { s with cond := { s.cond with contacts := v } }) hput

/-- With no raise of the contact waiting, the clear of its record has no further effect (R22). -/
theorem State.clearDue_of_contact {s : State} {n : ContactNo} (hw : (s.contact n).waiting = none) {r : CondRecord}
    (h : s.contactRecord? n = some r) (hp : r.pending = false) (c : ClearCause) :
    s.clearDue r.key c = s.cleared r.key r.withheld c := by
  rw [State.clearDue_of_not_pending (State.record?_of_contactRecord? h) hp]
  refine State.takeWaitingRaise_of_not_waiting _ fun m hm => ?_
  obtain rfl : n = m := by simpa using (State.detail_of_contactRecord? h).symm.trans hm
  exact hw

/-- A clear decided for a contact leaves the contact's record, but for a raise that waits. -/
theorem State.contactClear_contact (s : State) (n : ContactNo) (c : ClearCause) :
    (s.contactClear n c).contact n = { s.contact n with waiting := none } := by
  cases hw : (s.contact n).waiting with
  | some x =>
    rw [State.contactClear_cancels hw]
    exact State.contact_setContact_same ..
  | none =>
    have hsame : (s.contactClear n c).contact n = s.contact n := by
      by_cases hdue : ∀ r, s.contactRecord? n = some r → r.clearDue ≠ none
      · rw [State.contactClear_none hw hdue]
      · push Not at hdue
        obtain ⟨r, hr, hdue⟩ := hdue
        rw [State.contactClear_clears hw hr hdue]
        cases hp : r.pending with
        | true =>
          rw [State.clearDue_of_pending (State.record?_of_contactRecord? hr) hp]
          rfl
        | false =>
          rw [State.clearDue_of_contact hw hr hp]
          rfl
    rw [hsame, ← hw]

/-- The contact that SET_CONTACT leaves (R33). -/
def Contact.reconfigured (c : Contact) (u : ContactUse) (l : Level) (d : Option Degree) (t : Nat) : Contact :=
  { use := u, openLevel := l, degree := d, debounce := t, accepted := false,
    timer := if c.level = l then some t else none, level := c.level, waiting := none }

theorem okOrClamped_debounce (b : Byte) :
    okOrClamped (clampNat 1 64 b.toNat != b.toNat) = if 1 ≤ b.toNat ∧ b.toNat ≤ 64 then 0x00 else 0x01 :=
  okOrClamped_eq_ite (by rw [bne_iff_ne]; unfold clampNat; omega)

theorem execSetContact_stores (s : State) {k : ContactNo} {u : ContactUse} {l : Level} {d : Option Degree}
    {kb ub lb db : Byte} (b : Byte) (hk : kb = BitVec.ofNat 8 k.val) (hu : ub = useByte u) (hl : lb = levelByte l)
    (hd : db = optByte d) :
    exec (.setContact kb ub lb db b) s = .next (State.answer
      ((s.contactClear k .reconfigured).setContact k ((s.contact k).reconfigured u l d (clampNat 1 64 b.toNat)))
      (.setContact kb ub lb db b) [if 1 ≤ b.toNat ∧ b.toNat ≤ 64 then 0x00 else 0x01]) := by
  show Host.Outcome.next (State.serve _ (s.takeSetContact ..)) = _
  rw [State.takeSetContact, hk, hu, hl, hd, index?_ofNat (by decide), use?_useByte, level?_levelByte,
    (optIndex?_eq_some (by decide) _ _).mpr rfl, ← okOrClamped_debounce]
  simp only [State.serve, State.contactClear_contact, Contact.reconfigure_eq]
  rfl

/-- Settles O20: the refusals field by field, and what is stored by whether a raise of the contact waits. -/
theorem aContactIsReconfigured : Obligations.AContactIsReconfigured := by
  refine fun k u l d b s => ⟨fun h => serve_refused _ (s.takeSetContact_unread b ?_), fun kk uu ll dd hk hu hl hd => ?_⟩
  · rcases h with h | h | h | ⟨h, hne⟩
    · exact .inl (index?_eq_none h)
    · exact .inr (.inl (use?_eq_none h))
    · exact .inr (.inr (.inl (level?_eq_none h)))
    · exact .inr (.inr (.inr (optIndex?_eq_none h hne)))
  · have hexec := execSetContact_stores (u := uu) (l := ll) s b hk (hu.trans (by cases uu <;> rfl))
      (hl.trans (by cases ll <;> rfl)) (hd.trans (optByte_eq dd).symm)
    cases hw : (s.contact kk).waiting with
    | some x =>
      rw [State.contactClear_cancels hw, State.setContact_setContact] at hexec
      exact ⟨_, s, hexec, rfl, fun _ => rfl, nofun, fun r => nofun⟩
    | none =>
      refine ⟨_, _, hexec, rfl, (absurd rfl ·), fun _ => ⟨fun r hr hdue => State.contactClear_clears hw hr hdue _,
        fun hdue => State.contactClear_none hw hdue _⟩, fun r _ hr hp hdue => ?_⟩
      rw [State.contactClear_clears hw hr hdue, State.clearDue_of_contact hw hr hp]
      exact ⟨rfl, rfl⟩

end Sys2Proof.Machine
end

section
/-! O4, O5 and O6: the values after a power-on reset, and what the two resets leave (R30, R35, R79, R176). -/

namespace Sys2Proof.Machine

/-- Settles O4: each table is a constant one, and the two profiles differ by one switch and their masks. -/
theorem resetValuesOfTheOtherBlocks : Obligations.ResetValuesOfTheOtherBlocks := by
  refine ⟨rfl, rfl, rfl, fun d => look_replicate _ d, rfl, fun d => ?_, fun n d => ?_, rfl, rfl, rfl, rfl,
    fun d => look_replicate _ d, fun b => look_replicate _ b, rfl, rfl, rfl⟩
  · have hd : State.reset.line d = defaultLine := look_replicate _ d
    rw [hd]
    rfl
  · fin_cases n
    · exact look_replicate _ d
    · exact look_replicate _ d

/-! ### As the part leaves a reset (R30, R35) -/

theorem Contact.leaveReset_eq (c : Contact) : c.leaveReset =
    { c with
      accepted := false
      timer := if c.level = c.openLevel then some c.debounce else none
      waiting := none } := by
  unfold Contact.leaveReset
  by_cases h : c.level = c.openLevel <;> simp [Contact.readsOpen_eq, h]

/-- What every block of a part at reset holds of the conditions, before the master-shut input is looked at. -/
structure State.AtReset (s : State) : Prop where
  now : s.now = 0
  shut : s.cond.shut = { asserted := s.cond.shut.asserted, raised := false, delay := none }
  active : s.cond.active = []
  touch : ∀ d, look s.cond.touch d = 0
  queue : s.map.queue = []
  transit : s.transit = emptyTransit

theorem State.leaveReset_not_asserted {s : State} (ha : s.cond.shut.asserted = false) : s.leaveReset = s :=
  if_neg (Bool.eq_false_iff.mp ha)

theorem State.leaveReset_asserted {s : State} (ha : s.cond.shut.asserted = true) (hr : s.record? shutKey = none) :
    s.leaveReset = (s.setShut { s.cond.shut with raised := true }).raised shutKey := by
  rw [State.leaveReset, if_pos ha, State.raise_of_none (s.record?_setShut hr _)]

theorem State.AtReset.leaveReset_not_asserted {s : State} (h : s.AtReset) (ha : s.cond.shut.asserted = false) :
    s.leaveReset.cond.shut = { asserted := false, raised := false, delay := none } ∧ s.leaveReset.cond.active = [] ∧
      (∀ d, look s.leaveReset.cond.touch d = 0) ∧ s.leaveReset.map.queue = [] ∧
      s.leaveReset.transit = emptyTransit := by
  rw [State.leaveReset_not_asserted ha]
  exact ⟨ha ▸ h.shut, h.active, h.touch, h.queue, h.transit⟩

/-- MASTER_SHUT is raised at once where its input is asserted (R35, R19). -/
theorem State.AtReset.leaveReset_asserted {s : State} (h : s.AtReset) (ha : s.cond.shut.asserted = true) :
    s.leaveReset.cond.shut = { asserted := true, raised := true, delay := none } ∧
      s.leaveReset.cond.active =
        [{ key := shutKey, raisedAt := 0, pending := true, clearDue := none, matched := [], withheld := 0 }] ∧
      (∀ d, look s.leaveReset.cond.touch d = 1) ∧ s.leaveReset.map.queue = [.key shutKey] ∧
      s.leaveReset.transit = { emptyTransit with toClaim := [.notice (.condition none)] } := by
  have hnone : s.record? shutKey = none := State.record?_eq_none fun r hr => by simp [h.active] at hr
  rw [State.leaveReset_asserted ha hnone]
  refine ⟨?_, ?_, fun d => ?_, ?_, ?_⟩
  · show MasterShut.mk s.cond.shut.asserted true s.cond.shut.delay = _
    rw [h.shut, ha]
  · show s.cond.active ++ [CondRecord.mk shutKey s.now true none [] 0] = _
    rw [h.active, h.now]
    rfl
  · exact (State.look_touch_raised_shutKey _ d).trans (congrArg (· + 1) (h.touch d))
  · show s.map.queue ++ _ = _
    rw [h.queue]
    rfl
  · show ({ s.transit with toClaim := s.transit.toClaim ++ [.notice (.condition none)] } : Transit) = _
    rw [h.transit]
    rfl

theorem State.leaveReset_eq_withDecision (s : State) : ∃ m x, s.leaveReset = (s.setShut m).withDecision x := by
  unfold State.leaveReset
  split
  · exact ⟨_, State.raise_eq_withDecision ..⟩
  · exact ⟨s.cond.shut, s.standing, rfl⟩

/-! ### POWER_ON_RESET (R79) -/

theorem State.powerOnBlocks_atReset (s : State) : s.powerOnBlocks.AtReset :=
  ⟨rfl, rfl, rfl, fun d => look_replicate _ d, rfl, rfl⟩

theorem State.powerOnBlocks_contact (s : State) (k : ContactNo) : s.powerOnBlocks.contact k =
    { use := .unused, openLevel := .low, degree := none, debounce := 20, accepted := false,
      timer := if (s.contact k).level = .low then some 20 else none, level := (s.contact k).level, waiting := none } :=
  (look_ofFn _ k).trans (Contact.leaveReset_eq _)

/-- Settles O5: the blocks at reset, and what the master-shut input then does. -/
theorem powerOnReset : Obligations.PowerOnReset := by
  intro s
  have hreset := s.powerOnBlocks_atReset
  obtain ⟨m, x, hx⟩ := s.powerOnBlocks.leaveReset_eq_withDecision
  exact ⟨_, congrArg Host.Outcome.next hx, rfl, rfl, rfl, rfl, rfl, rfl, rfl, rfl, rfl, rfl, rfl, rfl, rfl, rfl,
    s.powerOnBlocks_contact, hx ▸ hreset.leaveReset_not_asserted, hx ▸ hreset.leaveReset_asserted, rfl, rfl, rfl⟩

/-! ### The soft reset (R176) -/

theorem State.softResetBlocks_atReset (s : State) : s.softResetBlocks.AtReset :=
  ⟨rfl, rfl, rfl, fun d => look_replicate _ d, rfl, rfl⟩

theorem InHand.isResetPart_of {h : InHand} (hk : h.frame.kind = 0x24) (hp : h.frame.payload = []) :
    h.isResetPart = true := by
  rw [InHand.isResetPart, hk, hp]
  rfl

/-- The state with `l` for its replies that are formed and not completely sent (R170). -/
def State.withReplies (s : State) (l : List Reply) : State := s.setLink { s.link with replies := l }

theorem execReplySent_resetPart {s : State} {h : InHand} {r : Reply} {rest : List Reply}
    (hh : s.link.hand = some h) (hreset : h.isResetPart = true) (hr : s.link.replies = r :: rest)
    (hbusy : r.busy = false) :
    exec .replySent s = .next (s.withReplies rest).softReset := by
  show execReplySent s = _
  simp only [execReplySent, hr, hbusy, State.handSent, State.setLink_link, hh, hreset]
  rfl

theorem attentionOf_start (c : ResetCause) (m : BitVec 4) : attentionOf [.start c] m = m.getLsbD 1 :=
  Bool.or_false _

/-- Settles O6: the blocks at the soft reset, and what the master-shut input then does. -/
theorem softReset : Obligations.SoftReset := by
  intro s h r rest hh hk hp hr hbusy
  have hexec := execReplySent_resetPart hh (InHand.isResetPart_of hk hp) hr hbusy
  have hreset := (s.withReplies rest).softResetBlocks_atReset
  obtain ⟨m, x, hx⟩ := (s.withReplies rest).softResetBlocks.leaveReset_eq_withDecision
  refine ⟨_, hexec.trans (congrArg Host.Outcome.next hx), rfl, rfl, rfl, rfl, rfl, rfl, fun k => ?_,
    hx ▸ hreset.leaveReset_not_asserted, hx ▸ hreset.leaveReset_asserted, rfl, rfl, fun i => ?_, fun d => ?_, rfl,
    fun d => ?_, rfl, rfl, ?_, rfl, rfl, rfl⟩
  · exact (State.softResetBlocks_contact _ k).trans (Contact.leaveReset_eq _)
  · exact State.softResetBlocks_source _ i
  · refine (State.softResetBlocks_span _ d).trans ?_
    rw [show State.reset.span d = defaultSpan from look_replicate _ d]
    rfl
  · refine (State.softResetBlocks_line _ d).trans ?_
    rw [show State.reset.line d = defaultLine from look_replicate _ d]
    rfl
  · show s.link.softReset = _
    rw [HostLink.softReset, attentionOf_start]
    rfl

end Sys2Proof.Machine
end

section
/-! O14: what the qualifiers that take a reading decide is taken (R23 to R28), and the rise of DARK_IN said whole. -/

namespace Sys2Proof.Machine

/-! ### Two states that differ in what a reading records -/

/-- The state with the front end `f`, the qualifiers of `q` and the samples `l` in transit. -/
def State.withReadings (s : State) (f : FrontEnd) (q : CondUnit) (l : List (Degree × Sample)) : State :=
  { s with
    front := f
    cond := { s.cond with dark := q.dark, refl := q.refl, pump := q.pump, fault := q.fault }
    transit := { s.transit with samples := l } }

/-- `t` is `s` but for the records of the front end, the qualifiers and the samples in transit. -/
def SameButReadings (s t : State) : Prop := t = s.withReadings t.front t.cond t.transit.samples

theorem SameButReadings.trans {s t u : State} (h : SameButReadings s t) (k : SameButReadings t u) :
    SameButReadings s u := by
  unfold SameButReadings at k
  rw [h] at k
  exact k

section
variable (s : State) (f : FrontEnd) (q : CondUnit) (l : List (Degree × Sample))

/-! ### A raise and a clear neither read nor write what a reading records -/

theorem State.record?_withReadings (k : Key) : (s.withReadings f q l).record? k = s.record? k := rfl

theorem State.raise_withReadings (k : Key) : (s.withReadings f q l).raise k = (s.raise k).withReadings f q l := by
  unfold State.raise
  rw [State.record?_withReadings]
  split
  · split <;> rfl
  · rfl

theorem State.takeWaitingRaise_withReadings (k : Key) :
    (s.withReadings f q l).takeWaitingRaise k = (s.takeWaitingRaise k).withReadings f q l := by
  by_cases hk : ∀ n, k.detail = some (.contact n) → (s.contact n).waiting = none
  · rw [s.takeWaitingRaise_of_not_waiting hk, (s.withReadings f q l).takeWaitingRaise_of_not_waiting hk]
  · push Not at hk
    obtain ⟨n, hn, hwaiting⟩ := hk
    obtain ⟨x, hx⟩ := Option.ne_none_iff_exists'.mp hwaiting
    rw [s.takeWaitingRaise_of_waiting hn hx, (s.withReadings f q l).takeWaitingRaise_of_waiting hn hx]
    exact State.raise_withReadings (s.setContact n { s.contact n with waiting := none }) f q l x

theorem State.clearDue_withReadings (k : Key) (c : ClearCause) :
    (s.withReadings f q l).clearDue k c = (s.clearDue k c).withReadings f q l := by
  unfold State.clearDue
  rw [State.record?_withReadings]
  split
  · rfl
  · next r _ =>
    split
    · rfl
    · rw [State.takeClear_eq, State.takeClear_eq]
      exact State.takeWaitingRaise_withReadings (s.cleared r.key r.withheld c) f q l r.key

theorem State.decided_withReadings (k : Key) (o : Option Bool) :
    (s.withReadings f q l).decided k o = (s.decided k o).withReadings f q l :=
  match o with
  | some true => s.raise_withReadings f q l k
  | some false => s.clearDue_withReadings f q l k .normal
  | none => rfl

end

theorem SameButReadings.decided {s t : State} (h : SameButReadings s t) (k : Key) (o : Option Bool) :
    SameButReadings (s.decided k o) (t.decided k o) := by
  rw [h, State.decided_withReadings]
  rfl

/-! ### What each qualifier decides -/

/-- What DARK_IN of `d` decides by the value `v`. -/
def State.darkDecides (s : State) (d : Degree) (v : Int) : Option Bool :=
  ((look s.cond.dark d).take (s.limits d).darkRaise (s.limits d).darkClear
    (sideBelow v (s.limits d).darkLevel (s.limits d).darkHyst)).2

/-- What REFLECT of `d` decides by the ratio record `x`. -/
def State.reflDecides (s : State) (d : Degree) (x : Ratio) : Option Bool :=
  ((look s.cond.refl d).take (s.limits d).reflectRaise (s.limits d).reflectClear (ratioSide (s.limits d) x)).2

/-- What PUMP_REFLECT of `d` decides by the value `v`. -/
def State.pumpDecides (s : State) (d : Degree) (v : Int) : Option Bool :=
  ((look s.cond.pump d).take (s.limits d).pumpRaise (s.limits d).pumpClear
    (sideAbove v (s.limits d).pumpLimit (s.limits d).pumpHyst)).2

/-- What MONITOR_FAULT of `c` decides by a fault reading or a good one. -/
def State.faultDecides (s : State) (c : ChannelNo) (isFault : Bool) : Option Bool :=
  ((look s.cond.fault c).take faultRaise faultClear (if isFault then .hazard else .safe)).2

theorem SameButReadings.feedFault {u w : State} (h : SameButReadings u w) (c : ChannelNo) (b : Bool) :
    SameButReadings (u.decided (faultKey c) (w.faultDecides c b)) (w.feedFault c b) :=
  (h.trans (u := { w with cond := { w.cond with fault := put w.cond.fault c (w.faultTaken c b) } }) rfl).decided _ _

theorem SameButReadings.feedDark {u w : State} (h : SameButReadings u w) (d : Degree) (v : Int) :
    SameButReadings (u.decided (degreeKey .darkIn d) (w.darkDecides d v)) (w.feedDark d v) :=
  (h.trans (u := { w with cond := { w.cond with dark := put w.cond.dark d (w.darkTaken d v) } }) rfl).decided _ _

theorem SameButReadings.feedReflect {u w : State} (h : SameButReadings u w) (d : Degree) (x : Ratio) :
    SameButReadings (u.decided (degreeKey .reflect d) (w.reflDecides d x)) (w.feedReflect d x) :=
  (h.trans (u := { w with cond := { w.cond with refl := put w.cond.refl d (w.reflTaken d x) } }) rfl).decided _ _

theorem SameButReadings.feedPump {u w : State} (h : SameButReadings u w) (d : Degree) (v : Int) :
    SameButReadings (u.decided (degreeKey .pumpReflect d) (w.pumpDecides d v)) (w.feedPump d v) :=
  (h.trans (u := { w with cond := { w.cond with pump := put w.cond.pump d (w.pumpTaken d v) } }) rfl).decided _ _

/-! ### What a reading decides -/

/-- `u` with what the qualifier of the channel's role decides of the reading `r`, taken in the state `s`. -/
def State.roleDecided (s : State) (c : ChannelNo) (r : Reading) (u : State) : State :=
  match chanRole c with
  | .inn => u.decided (degreeKey .darkIn (chanDegree c)) (s.darkDecides (chanDegree c) r.value)
  | .out => u
  | .refl => u.decided (degreeKey .reflect (chanDegree c))
      (s.reflDecides (chanDegree c) (s.ratioAfter (chanDegree c) r.value))
  | .prefl => u.decided (degreeKey .pumpReflect (chanDegree c)) (s.pumpDecides (chanDegree c) r.value)

/-- Between the two consumers of the reading nothing is written that the second one reads. -/
theorem State.distribute_same (s : State) (c : ChannelNo) (r : Reading) {u : State} {x : Decision}
    (h : SameButReadings u ((s.storedAndFed c r).withDecision x)) :
    SameButReadings (s.roleDecided c r u) (((s.storedAndFed c r).withDecision x).distribute c r.value) := by
  unfold State.roleDecided State.distribute
  cases hrole : chanRole c with
  | inn =>
    refine (h.feedDark (chanDegree c) r.value).trans ?_
    exact rfl
  | out => exact h
  | refl =>
    have hratio : ratioOf r.value ((s.front.store c r).outValue (chanDegree c)) (s.limits (chanDegree c)).outFloor =
        s.ratioAfter (chanDegree c) r.value :=
      congrArg (ratioOf r.value · _) (s.front.outValue_store (by simp [hrole]) r _)
    rw [← hratio]
    refine SameButReadings.feedReflect (h.trans ?_) (chanDegree c) _
    exact rfl
  | prefl => exact h.feedPump (chanDegree c) r.value

/-- The raises and clears of MONITOR_READING: of MONITOR_FAULT first, then of the channel's role. -/
def State.readingDecided (s : State) (c : ChannelNo) (r : Reading) : State :=
  s.roleDecided c r (s.decided (faultKey c) (s.faultDecides c r.isFault))

/-- MONITOR_READING is the writing of its records, and what they decide. -/
theorem execMonitorReading_decided (c : ChannelNo) (code : BitVec 12) (valid : Bool) (s : State) :
    ∃ x, exec (.monitorReading c code valid) s =
        .next ((s.afterReading c (s.readingAt c code valid)).withDecision x) ∧
      SameButReadings (s.readingDecided c (s.readingAt c code valid))
        ((s.afterReading c (s.readingAt c code valid)).withDecision x) := by
  obtain ⟨x, hx⟩ := execMonitorReading_eq c code valid s
  generalize hr : s.readingAt c code valid = r at hx ⊢
  have hstore : SameButReadings s { s with front := s.front.store c r } := rfl
  obtain ⟨y, hy⟩ := State.feedFault_eq { s with front := s.front.store c r } c r.isFault
  have hfed := hstore.feedFault c r.isFault
  rw [hy] at hfed
  have ht : ((s.storedAndFed c r).withDecision y).distribute c r.value = (s.afterReading c r).withDecision x := by
    refine Host.Outcome.next.inj (Eq.trans ?_ hx)
    rw [← hr] at hy ⊢
    exact congrArg Host.Outcome.next (congrArg (State.distribute · c _) hy.symm)
  exact ⟨x, hx, ht ▸ s.distribute_same c r hfed⟩

/-! ### The sides of a reading, as R24 to R28 give them -/

theorem State.faultDecides_readingAt (s : State) (c : ChannelNo) (code : BitVec 12) (valid : Bool) :
    s.faultDecides c (s.readingAt c code valid).isFault =
      ((look s.cond.fault c).take 4 400 (if valid = true ∧ code ≠ 4095#12 then .safe else .hazard)).2 := by
  have hside : (if (s.readingAt c code valid).isFault then Side.hazard else .safe) =
      if valid = true ∧ code ≠ 4095#12 then .safe else .hazard := by
    cases valid <;> simp [State.readingAt, readingOf, Reading.isFault, saturationCode]
  rw [State.faultDecides, hside]
  rfl

theorem State.reflDecides_eq (s : State) (d : Degree) (x : Ratio) : s.reflDecides d x =
    ((look s.cond.refl d).take (s.limits d).reflectRaise (s.limits d).reflectClear
      (if x.evaluated = false then .hold
        else if (s.limits d).reflectLimit < x.r then .hazard
        else if x.r ≤ (s.limits d).reflectLimit - (s.limits d).reflectHyst then .safe
        else .band)).2 := by
  rw [State.reflDecides, ratioSide]
  cases x.evaluated <;> rfl

theorem State.isFault_readingAt_unsaturated (s : State) (c : ChannelNo) {code : BitVec 12} (h : code ≠ 4095#12) :
    (s.readingAt c code true).isFault = false := by
  simp [State.readingAt, readingOf, Reading.isFault, saturationCode, h]

/-! ### A reading that completes the run of DARK_IN (R23, R25) -/

theorem Qualifier.take_safe_of_clear {q : Qualifier} (h : q.raised = false) (raiseCount clearCount : Nat) :
    q.take raiseCount clearCount .safe = ({ raised := false, counter := 0 }, none) := by
  simp [Qualifier.take, h]

theorem Qualifier.take_hazard_of_complete {q : Qualifier} (h : q.raised = false) {raiseCount : Nat}
    (hcount : raiseCount ≤ q.counter + 1) (clearCount : Nat) :
    q.take raiseCount clearCount .hazard = ({ raised := true, counter := 0 }, some true) := by
  simp [Qualifier.take, h, hcount]

theorem chanRole_channel_zero : ∀ d, chanRole (channel d 0) = .inn := by decide

theorem chanDegree_channel_zero : ∀ d, chanDegree (channel d 0) = d := by decide

theorem SameButReadings.conditions {s t : State} (h : SameButReadings s t) :
    t.cond.active = s.cond.active ∧ t.cond.touch = s.cond.touch ∧ t.map.queue = s.map.queue ∧
      t.transit.toClaim = s.transit.toClaim ∧ t.transit.reports = s.transit.reports := by
  rw [h]
  exact ⟨rfl, rfl, rfl, rfl, rfl⟩

/-- The raise of DARK_IN is all that an IN reading decides where MONITOR_FAULT is clear. -/
theorem State.readingDecided_dark {s : State} {d : Degree} {r : Reading} (hgood : r.isFault = false)
    (hfault : (look s.cond.fault (channel d 0)).raised = false) (hdark : s.darkDecides d r.value = some true) :
    s.readingDecided (channel d 0) r = s.raise (degreeKey .darkIn d) := by
  have hnone : s.faultDecides (channel d 0) r.isFault = none := by
    rw [hgood]
    exact congrArg Prod.snd (Qualifier.take_safe_of_clear hfault ..)
  rw [State.readingDecided, hnone, State.roleDecided, chanRole_channel_zero, chanDegree_channel_zero, hdark]
  rfl

/-- Settles O14: each decision by `execMonitorReading_decided`, and for DARK_IN the raise that it is. -/
theorem whatReadingsDecideIsTaken : Obligations.WhatReadingsDecideIsTaken := by
  constructor
  · intro c code valid s decided d l
    have hdecided : decided = State.decided := by
      funext u k o
      rcases o with _ | _ | _ <;> rfl
    obtain ⟨x, hx, hsame⟩ := execMonitorReading_decided c code valid s
    have hlast := s.look_last_frontAfter c (s.readingAt c code valid)
    refine ⟨_, s.decided (faultKey c) (s.faultDecides c (s.readingAt c code valid).isFault),
      s.readingDecided c (s.readingAt c code valid), hx, ?_, ?_, hsame⟩
    · rw [hdecided, s.faultDecides_readingAt]
      rfl
    · rw [hdecided, State.readingDecided, State.roleDecided]
      cases hrole : chanRole c with
      | inn =>
        show _ = State.decided _ _ ((look s.cond.dark d).take _ _
          (if (look (s.frontAfter c _).last c).value < _ then _ else
            if _ ≤ (look (s.frontAfter c _).last c).value then _ else _)).2
        rw [hlast]
        rfl
      | out => rfl
      | refl =>
        have hratio : look (s.frontAfter c (s.readingAt c code valid)).ratio d =
            s.ratioAfter d (s.readingAt c code valid).value :=
          (s.look_ratio_frontAfter ..).trans (if_pos ⟨hrole, rfl⟩)
        rw [State.reflDecides_eq, ← hratio]
        rfl
      | prefl =>
        show _ = State.decided _ _ ((look s.cond.pump d).take _ _
          (if _ < (look (s.frontAfter c _).last c).value then _ else
            if (look (s.frontAfter c _).last c).value ≤ _ then _ else _)).2
        rw [hlast]
        rfl
  · intro d code s hcode hfault hlow hdark hcount hnone
    obtain ⟨x, hx, hsame⟩ := execMonitorReading_decided (channel d 0) code true s
    have hgood := s.isFault_readingAt_unsaturated (channel d 0) hcode
    have hside : sideBelow (s.readingAt (channel d 0) code true).value (s.limits d).darkLevel (s.limits d).darkHyst =
        .hazard := if_pos hlow
    have hqualifier := Qualifier.take_hazard_of_complete hdark hcount (s.limits d).darkClear
    rw [← hside] at hqualifier
    rw [State.readingDecided_dark hgood hfault (congrArg Prod.snd hqualifier),
      State.raise_of_none (State.record?_eq_none hnone)] at hsame
    obtain ⟨hactive, htouch, hqueue, hclaim, hreports⟩ := hsame.conditions
    refine ⟨_, hx, hactive, hqueue, fun e => ?_, hclaim, ?_, ?_, hreports⟩
    · rw [htouch, State.look_touch_raised]
      exact if_congr (by simp [degreeKey, eq_comm]) rfl rfl
    · refine (s.look_dark_qualifiersAfter ..).trans ((if_pos ?_).trans (congrArg Prod.fst hqualifier))
      exact ⟨chanRole_channel_zero d, chanDegree_channel_zero d⟩
    · refine (look_put_same ..).trans ?_
      rw [State.faultTaken, hgood]
      exact congrArg Prod.fst (Qualifier.take_safe_of_clear hfault ..)

end Sys2Proof.Machine
end

section
/-! SUPPORT. What a command that writes no restriction collection leaves at the grant unit: every collection as it
stands, and nothing handed but clears. Three commands change a collection by an event, two by a request, two hand orders
or removals, and two reset the part; all others are proved here to spare the collections (R65 to R70). -/

namespace Sys2Proof.Machine

/-- What the orders, removals, clears and releases change of a source (R65 to R70, R75). -/
def Source.collection (x : Source) : List Restriction × Bool × Bool := (x.restrictions, x.overflow, x.lostShut)

/-- From `s` to `t` no collection changes, and nothing but clears is handed to the grant unit. -/
structure Spares (s t : State) : Prop where
  collections : ∀ i, (t.source i).collection = (s.source i).collection
  handed : ∀ e ∈ t.transit.toGrant, e ∈ s.transit.toGrant ∨ ∃ k, e = .clear k

theorem Spares.refl (s : State) : Spares s s := ⟨fun _ => rfl, fun _ => .inl⟩

theorem Spares.trans {s t u : State} (h : Spares s t) (k : Spares t u) : Spares s u :=
  ⟨fun i => (k.collections i).trans (h.collections i), fun e he => (k.handed e he).elim (h.handed e) .inr⟩

theorem Spares.foldl {α : Type} {f : State → α → State} (h : ∀ s x, Spares s (f s x)) (l : List α) (s : State) :
    Spares s (l.foldl f s) := by
  induction l generalizing s with
  | nil => exact .refl s
  | cons x l ih => exact (h s x).trans (ih (f s x))

/-- A step that touches neither the grant unit nor what it is handed. -/
theorem Spares.of_eq {s t : State} (hg : t.grant = s.grant) (ht : t.transit.toGrant = s.transit.toGrant) :
    Spares s t :=
  ⟨fun i => congrArg (fun g => (look g.sources i).collection) hg, fun _ he => .inl (ht ▸ he)⟩

/-- A step that spares the collections, after a write elsewhere. -/
theorem Spares.after {s t u : State} (h : Spares t u) (hg : t.grant = s.grant := by rfl)
    (ht : t.transit.toGrant = s.transit.toGrant := by rfl) : Spares s u := (Spares.of_eq hg ht).trans h

theorem ReplySide.spares {s t : State} (h : ReplySide s t) : Spares s t :=
  .of_eq h.grant (congrArg Transit.toGrant h.transit)

theorem ClaimSide.spares {s t : State} (h : ClaimSide s t) : Spares s t :=
  .of_eq h.grant (congrArg Transit.toGrant h.transit)

variable (s : State)

/-! ### The grant unit's ports -/

theorem Source.regranted_collection (spans : Vector Span 4) (x : Source) :
    (x.regranted spans).collection = x.collection := by
  unfold Source.regranted
  split <;> rfl

theorem State.recompute_spares (a : Bool) (s : State) (i : SourceNo) : Spares s (s.recompute a i) := by
  refine ⟨fun j => ?_, fun e he => .inl ?_⟩
  · rw [State.recompute_source]
    split
    · next h => rw [Source.regranted_collection, h]
    · rfl
  · rwa [State.recompute_eq] at he

theorem State.recomputeAll_spares (a : Bool) (s : State) (l : List SourceNo) : Spares s (s.recomputeAll a l) :=
  Spares.foldl (State.recompute_spares a) l s

theorem State.setSource_spares {i : SourceNo} {x : Source} (h : x.collection = (s.source i).collection) :
    Spares s (s.setSource i x) := by
  refine ⟨fun j => ?_, fun _ => .inl⟩
  rw [State.source_setSource]
  split
  · next e => rw [h, e]
  · rfl

theorem State.takeHoldSource_spares (i h : Byte) : Spares s (s.takeHoldSource i h).1 := by
  unfold State.takeHoldSource
  split
  · exact (State.setSource_spares s (by rfl)).trans (State.recompute_spares false _ _)
  · exact .refl s

/-! ### The span controller -/

theorem State.moveSpan_spares (d : Degree) (n : SpanState) (c : SpanCause) (f : Span → Span) (k : Option Key) :
    Spares s (s.moveSpan d n c f k) := by
  unfold State.moveSpan
  dsimp only
  rw [State.handForcedIf_eq, State.handCutTrigger_eq]
  exact ((State.recomputeAll_spares _ _ _).after).trans (.of_eq rfl rfl)

theorem State.enterDark_spares (d : Degree) (c : SpanCause) (f : Span → Span) (k : Option Key) :
    Spares s (s.enterDark d c f k) := State.moveSpan_spares s ..

theorem State.enterProbe_spares (d : Degree) (c : SpanCause) (f : Span → Span) : Spares s (s.enterProbe d c f) :=
  State.moveSpan_spares s ..

theorem State.settleInAwait_spares (d : Degree) : Spares s (s.settleInAwait d) := by
  unfold State.settleInAwait
  split
  · exact State.enterDark_spares s ..
  · split <;> exact .of_eq rfl rfl

theorem State.enterAwait_spares (d : Degree) (c : SpanCause) (f : Span → Span) : Spares s (s.enterAwait d c f) := by
  unfold State.enterAwait
  split
  · exact State.moveSpan_spares s ..
  · exact (State.moveSpan_spares s ..).trans (State.settleInAwait_spares _ d)

theorem State.takeCut_spares (d : Degree) (k : Key) : Spares s (s.takeCut d k) := by
  unfold State.takeCut
  refine Spares.trans (t := s.setSpan d ((s.span d).see d k true)) (.of_eq rfl rfl) ?_
  dsimp only
  split
  · exact State.enterDark_spares ..
  · split
    · exact State.moveSpan_spares ..
    · exact State.enterDark_spares ..
  · split
    · exact State.moveSpan_spares ..
    · exact State.enterDark_spares ..
  all_goals exact .refl _

theorem State.takeLock_spares (d : Degree) (c : LockCause) : Spares s (s.takeLock d c) := by
  unfold State.takeLock
  split
  · split <;> exact .of_eq rfl rfl
  · exact State.moveSpan_spares s ..

theorem State.reexamine_spares (s : State) (d : Degree) : Spares s (s.reexamine d) := by
  unfold State.reexamine
  dsimp only
  split
  · exact .of_eq rfl rfl
  · exact .of_eq rfl rfl
  · exact State.enterDark_spares s ..
  · exact .of_eq rfl rfl

theorem State.testConfirmation_spares (d : Degree) (far : Option FarWord) : Spares s (s.testConfirmation d far) := by
  unfold State.testConfirmation
  split
  · split <;> exact State.moveSpan_spares s ..
  · exact .refl s

theorem State.setRole_spares (d : Degree) (far : Option FarWord) : Spares s (s.setRole d far) := by
  unfold State.setRole
  refine Spares.trans (t := s.setSpan d { s.span d with role := roleAgainst s.words.own far }) (.of_eq rfl rfl) ?_
  dsimp only
  split
  · exact State.moveSpan_spares ..
  · exact .refl _

theorem State.takeSpanClear_spares (k : Key) (w : DegSet) : Spares s (s.takeSpanClear k w) := by
  unfold State.takeSpanClear
  have hseen : Spares s (match k.degree with
      | some d => s.setSpan d ((s.span d).see d k false)
      | none => s) := by
    split <;> exact .of_eq rfl rfl
  have hexamined := hseen.trans (Spares.foldl State.reexamine_spares (DegSet.toList w) _)
  dsimp only
  split
  · exact hexamined.trans (State.testConfirmation_spares _ _ _)
  · exact hexamined

theorem State.takeFarWord_spares (d : Degree) (w : FarWord) : Spares s (s.takeFarWord d w) := by
  have hwithdraw : ∀ t : State, Spares t (t.withdrawOn d w) := fun t => by
    unfold State.withdrawOn
    split <;> exact .of_eq rfl rfl
  have hreply : ∀ t : State, Spares t (t.replyProbe d w) := fun t => by
    unfold State.replyProbe
    split
    · exact State.enterProbe_spares t ..
    · exact .refl t
  have hrequest : ∀ t : State, Spares t (t.farRequest d w) := fun t => by
    unfold State.farRequest
    split
    · exact State.enterProbe_spares t ..
    · exact .refl t
  exact ((((State.setRole_spares s d _).trans (hwithdraw _)).trans (hreply _)).trans (hrequest _)).trans
    (State.testConfirmation_spares _ d _)

theorem State.takeOrdinalChange_spares (d : Degree) (b : Bool) : Spares s (s.takeOrdinalChange d b) := by
  unfold State.takeOrdinalChange
  refine Spares.trans ?_ (State.setRole_spares _ d _)
  split
  · exact State.reexamine_spares s d
  · exact .refl s

theorem State.stepRamp_spares (d : Degree) : Spares s (s.stepRamp d) := by
  unfold State.stepRamp
  dsimp only
  split
  · exact State.moveSpan_spares s ..
  · exact (State.recomputeAll_spares ..).after

theorem State.failProbe_spares (d : Degree) : Spares s (s.failProbe d) := by
  unfold State.failProbe
  dsimp only
  split
  · exact State.moveSpan_spares s ..
  · exact State.enterAwait_spares s ..

theorem State.intervalInAwait_spares (d : Degree) : Spares s (s.intervalInAwait d) := by
  unfold State.intervalInAwait
  dsimp only
  split
  · split
    · exact State.enterProbe_spares s ..
    all_goals exact .of_eq rfl rfl
  · exact .of_eq rfl rfl

theorem State.takeSetSpan_spares (d : Byte) (c : RawSpanConfig) : Spares s (s.takeSetSpan d c).1 := by
  unfold State.takeSetSpan
  split
  · exact .refl s
  · exact (State.recomputeAll_spares ..).after

theorem State.takeLockRequest_spares (d : Byte) : Spares s (s.takeLockRequest d).1 := by
  unfold State.takeLockRequest
  split
  · exact .refl s
  · exact State.takeLock_spares s _ _

theorem State.release_spares (c : SpanCause) (s : State) (d : Degree) : Spares s (State.release c s d) :=
  State.enterDark_spares s ..

theorem State.probeManually_spares (ms : Nat) (s : State) (d : Degree) : Spares s (State.probeManually ms s d) :=
  State.moveSpan_spares s ..

/-! ### The condition unit -/

theorem State.raise_spares (k : Key) : Spares s (s.raise k) := by
  unfold State.raise
  split
  · split <;> exact .of_eq rfl rfl
  · exact .of_eq rfl rfl

theorem State.takeWaitingRaise_spares (k : Key) : Spares s (s.takeWaitingRaise k) := by
  unfold State.takeWaitingRaise
  split
  · split
    · exact (State.raise_spares _ _).after
    · exact .refl s
  all_goals exact .refl s

/-- A clear is the one event that the condition unit hands to the grant unit (R21). -/
theorem State.takeClear_spares (r : CondRecord) (c : ClearCause) : Spares s (s.takeClear r c) := by
  unfold State.takeClear
  refine Spares.trans ?_ (State.takeWaitingRaise_spares _ _)
  exact ⟨fun _ => rfl, fun e he => (List.mem_append.mp he).imp_right fun h => ⟨r.key, List.mem_singleton.mp h⟩⟩

theorem State.clearDue_spares (k : Key) (c : ClearCause) : Spares s (s.clearDue k c) := by
  unfold State.clearDue
  split
  · exact .refl s
  · split
    · exact .of_eq rfl rfl
    · exact State.takeClear_spares s _ c

theorem State.decided_spares (k : Key) (o : Option Bool) : Spares s (s.decided k o) := by
  unfold State.decided
  split
  · exact State.raise_spares s k
  · exact State.clearDue_spares s k _
  · exact .refl s

theorem State.feedDark_spares (d : Degree) (v : Int) : Spares s (s.feedDark d v) := (State.decided_spares _ _ _).after

theorem State.feedReflect_spares (d : Degree) (x : Ratio) : Spares s (s.feedReflect d x) :=
  (State.decided_spares _ _ _).after

theorem State.feedPump_spares (d : Degree) (v : Int) : Spares s (s.feedPump d v) := (State.decided_spares _ _ _).after

theorem State.feedFault_spares (c : ChannelNo) (b : Bool) : Spares s (s.feedFault c b) :=
  (State.decided_spares _ _ _).after

theorem State.distribute_spares (c : ChannelNo) (v : Int) : Spares s (s.distribute c v) := by
  unfold State.distribute
  dsimp only
  split
  · exact (State.feedDark_spares s _ v).trans (.of_eq rfl rfl)
  · exact .refl s
  · exact (State.feedReflect_spares _ _ _).after
  · exact State.feedPump_spares s _ v

theorem State.contactRaise_spares (n : ContactNo) (k : Key) : Spares s (s.contactRaise n k) := by
  unfold State.contactRaise
  split
  · split
    · exact .of_eq rfl rfl
    · exact State.raise_spares s k
  · exact State.raise_spares s k

theorem State.contactClear_spares (n : ContactNo) (c : ClearCause) : Spares s (s.contactClear n c) := by
  unfold State.contactClear
  split
  · exact .of_eq rfl rfl
  · split
    · split
      · exact .refl s
      · exact State.clearDue_spares s _ c
    · exact .refl s

theorem State.handReexaminations_spares (m : DegSet) : Spares s (s.handReexaminations m) :=
  Spares.foldl (f := fun s d => State.handSpan s (.reexamine d)) (fun _ _ => .of_eq rfl rfl) _ s

theorem State.writeSnapshot_spares (k : Key) (m : List EntryNo) (w : DegSet) : Spares s (s.writeSnapshot k m w) := by
  unfold State.writeSnapshot
  split
  · exact .refl s
  · dsimp only
    split
    · exact (State.handReexaminations_spares _ w).after.trans (State.takeClear_spares _ _ _)
    · exact (State.handReexaminations_spares _ w).after

theorem State.rewriteSnapshot_spares (k : Key) (m : List EntryNo) (w : DegSet) :
    Spares s (s.rewriteSnapshot k m w) := by
  unfold State.rewriteSnapshot
  split
  · exact .refl s
  · split
    · exact .refl s
    · exact (State.handReexaminations_spares _ _).after

theorem State.forceClear_spares (d : Degree) : Spares s (s.forceClear d) := by
  unfold State.forceClear
  dsimp only
  split
  · exact (State.clearDue_spares _ _ _).after
  · exact .of_eq rfl rfl

theorem State.acceptContact_spares (k : ContactNo) : Spares s (s.acceptContact k) := by
  unfold State.acceptContact
  refine Spares.trans
    (t := s.setContact k { s.contact k with timer := none, accepted := (s.contact k).readsOpen }) (.of_eq rfl rfl) ?_
  dsimp only
  split
  · exact State.contactRaise_spares _ k _
  · exact .refl _
  · exact State.contactClear_spares _ k _

theorem State.takeSetContact_spares (k u l d t : Byte) : Spares s (s.takeSetContact k u l d t).1 := by
  unfold State.takeSetContact
  split
  · exact (State.contactClear_spares s _ _).trans (.of_eq rfl rfl)
  · exact .refl s

/-- As the part leaves a reset it can raise MASTER_SHUT, and nothing else (R35). -/
theorem State.leaveReset_spares : Spares s s.leaveReset := by
  unfold State.leaveReset
  split
  · exact (State.raise_spares _ _).after
  · exact .refl s

/-! ### The span word unit -/

theorem State.handLine_spares (d : Degree) (e : LineEvent) : Spares s (s.handLine d e) := .of_eq rfl rfl

theorem State.lineDecides_spares (k : Key) (a b : Bool) : Spares s (s.lineDecides k a b) := by
  unfold State.lineDecides
  split
  · exact State.raise_spares s k
  · split
    · exact State.clearDue_spares s k _
    · exact .refl s

theorem State.acceptWord_spares (d : Degree) (w : FarWord) : Spares s (s.acceptWord d w) := by
  unfold State.acceptWord
  refine Spares.trans ?_ (State.handLine_spares _ _ _)
  refine Spares.trans ?_ (State.lineDecides_spares _ _ _ _)
  refine Spares.trans ?_ (State.lineDecides_spares _ _ _ _)
  exact (State.lineDecides_spares _ _ _ _).after

theorem State.recoverWord_spares (d : Degree) (w : FarWord) : Spares s (s.recoverWord d w) := by
  unfold State.recoverWord
  dsimp only
  split
  · exact .of_eq rfl rfl
  · exact ((State.clearDue_spares _ _ _).after).trans (State.acceptWord_spares _ d w)

theorem State.mismatchWord_spares (d : Degree) : Spares s (s.mismatchWord d) := by
  unfold State.mismatchWord
  dsimp only
  split
  · exact .of_eq rfl rfl
  · exact (State.lineDecides_spares _ _ _ _).after

theorem State.matchWord_spares (d : Degree) (w : FarWord) : Spares s (s.matchWord d w) := by
  unfold State.matchWord
  dsimp only
  split
  · exact (State.recoverWord_spares _ d w).after
  · exact (State.acceptWord_spares _ d w).after

theorem State.takeWord_spares (d : Degree) (l : List Byte) : Spares s (s.takeWord d l) := by
  unfold State.takeWord
  split
  · exact .of_eq rfl rfl
  · split
    · exact State.mismatchWord_spares s d
    · exact State.matchWord_spares s d _

theorem State.receiveByte_spares (d : Degree) (s : State) (b : Byte) : Spares s (State.receiveByte d s b) := by
  unfold State.receiveByte
  split
  · split <;> exact .of_eq rfl rfl
  · split
    · exact .of_eq rfl rfl
    · exact (State.takeWord_spares (s.setReceiving d none) d _).after

theorem State.fallIdle_spares (d : Degree) : Spares s (s.fallIdle d) := by
  unfold State.fallIdle
  split <;> exact .of_eq rfl rfl

theorem State.takeSetSite_spares (o a b c d : Half) : Spares s (s.takeSetSite o a b c d).1 := by
  unfold State.takeSetSite
  dsimp only
  split
  · exact .of_eq rfl rfl
  · exact (Spares.foldl (fun t e => State.handLine_spares t e _) _ _).after

theorem State.takeGetLine_spares (d : Byte) : Spares s (s.takeGetLine d).1 := by
  unfold State.takeGetLine
  split
  · exact .refl s
  · split <;> exact .of_eq rfl rfl

/-! ### The hazard map's entries, captures, claims, profiles -/

theorem State.takePutEntry_spares (p g : Byte) (k : RawKey) (c n : Byte) (as : List RawAction) (x w : Byte) :
    Spares s (s.takePutEntry p g k c n as x w).1 := by
  unfold State.takePutEntry
  split
  · exact .of_eq rfl rfl
  · split <;> exact .of_eq rfl rfl
  · exact .refl s

theorem State.takeParkEntry_spares (i : Byte) : Spares s (s.takeParkEntry i).1 := by
  unfold State.takeParkEntry
  split
  · exact .refl s
  · split <;> exact .of_eq rfl rfl

theorem State.takeUnparkEntry_spares (i : Byte) : Spares s (s.takeUnparkEntry i).1 := by
  unfold State.takeUnparkEntry
  split
  · exact .refl s
  · split <;> exact .of_eq rfl rfl

theorem State.takeFreeEntry_spares (i : Byte) : Spares s (s.takeFreeEntry i).1 := by
  unfold State.takeFreeEntry
  split <;> exact .of_eq rfl rfl

theorem State.fillBuffer_spares (d : Degree) (x : Sample) (s : State) (b : BufferNo) :
    Spares s (State.fillBuffer d x s b) := by
  unfold State.fillBuffer
  dsimp only
  split
  · split_ifs <;> exact .of_eq rfl rfl
  all_goals exact .refl s

theorem State.takeSample_spares (d : Degree) (x : Sample) : Spares s (s.takeSample d x) :=
  (Spares.foldl (State.fillBuffer_spares d x) _ _).after

theorem State.takeTrigger_spares (d : Degree) (k : Key) : Spares s (s.takeTrigger d k) := by
  unfold State.takeTrigger
  split <;> exact .of_eq rfl rfl

theorem State.takeReleaseCapture_spares (b : Byte) : Spares s (s.takeReleaseCapture b).1 := by
  unfold State.takeReleaseCapture
  split
  · exact .refl s
  · split <;> exact .of_eq rfl rfl

theorem State.endClaim_spares (c : EndCause) : Spares s (s.endClaim c) := (State.endClaim_side s c).spares

theorem State.takeNotice_spares (n : Notice) : Spares s (s.takeNotice n) := by
  unfold State.takeNotice
  split
  · split
    · exact State.endClaim_spares s _
    · exact .refl s
  · exact .refl s

theorem State.takeClaim_spares (n : Byte) (l : List Byte) : Spares s (s.takeClaim n l).1 := by
  unfold State.takeClaim
  split
  · exact .refl s
  · exact (State.endClaim_spares s .replaced).trans (.of_eq rfl rfl)

theorem State.commit_spares (m : DegSet) (p : Degree → Reason) {f : State → Degree → State}
    (hf : ∀ s d, Spares s (f s d)) (ok : Byte) : Spares s (s.commit m p f ok).1 := by
  have hend := State.endClaim_spares s .consumed
  unfold State.commit
  dsimp only
  split
  · exact hend
  · split
    · exact hend.trans (Spares.foldl hf _ _)
    · exact hend

theorem State.spanCommit_spares (n : Byte) (l : List Byte) (p : Degree → Reason) {f : State → Degree → State}
    (hf : ∀ s d, Spares s (f s d)) (ok : Byte) : Spares s (s.spanCommit n l p f ok).1 := by
  unfold State.spanCommit
  split
  · exact .refl s
  · exact State.commit_spares s _ p hf ok

theorem State.takeSetProfile_spares (p d : Byte) (l : RawLimits) (a m : Byte) :
    Spares s (s.takeSetProfile p d l a m).1 := by
  unfold State.takeSetProfile
  split <;> exact .of_eq rfl rfl

theorem State.takeSelectProfile_spares (p : Byte) : Spares s (s.takeSelectProfile p).1 := by
  unfold State.takeSelectProfile
  split
  · exact .refl s
  · dsimp only
    split <;> exact .of_eq rfl rfl

theorem State.takeSetChannel_spares (c : Byte) (d g : Half) : Spares s (s.takeSetChannel c d g).1 := by
  unfold State.takeSetChannel
  split <;> exact .of_eq rfl rfl

/-! ### The host link -/

theorem State.replyInHand_spares (b : List Byte) : Spares s (s.replyInHand b) := (State.replyInHand_side s b).spares

theorem State.answer_spares (i : Instr) (b : List Byte) : Spares s (s.answer i b) := (State.answer_side s i b).spares

theorem State.keepByte_spares (n : Byte) (l : List Byte) : Spares s (s.keepByte n l) := by
  unfold State.keepByte
  dsimp only
  split
  · exact .of_eq rfl rfl
  · split <;> exact .of_eq rfl rfl

theorem State.frameByte_spares (b : Byte) : Spares s (s.frameByte b) := by
  unfold State.frameByte
  split
  · split <;> exact .of_eq rfl rfl
  · split <;> exact .of_eq rfl rfl
  · exact State.keepByte_spares s _ _

theorem State.placeInHand_spares (f : Frame) : Spares s (s.placeInHand f) := by
  unfold State.placeInHand
  dsimp only
  split
  · exact (State.replyInHand_spares _ _).after
  · exact (State.replyInHand_spares _ _).after
  · exact .of_eq rfl rfl

theorem State.placeFrame_spares (f : Frame) : Spares s (s.placeFrame f) := by
  unfold State.placeFrame
  split
  · exact State.placeInHand_spares s f
  · split <;> exact .of_eq rfl rfl
  · split_ifs <;> exact .of_eq rfl rfl

theorem State.emptyHand_spares : Spares s s.emptyHand := by
  unfold State.emptyHand
  split
  · exact (State.placeInHand_spares _ _).after
  · exact .of_eq rfl rfl

/-- A reply that has been sent spares the collections, or it was that of RESET_PART and the soft reset follows. -/
theorem execReplySent_spares_or_resets :
    Answers (fun t => Spares s t ∨ ∃ u, Spares s u ∧ t = u.softReset) (execReplySent s) := by
  unfold execReplySent
  split
  · next r rest _ =>
    have hlink : Spares s (s.setLink { s.link with replies := rest }) := .of_eq rfl rfl
    refine .next ?_
    dsimp only
    split
    · exact .inl hlink
    · unfold State.handSent
      split
      · split
        · exact .inr ⟨_, hlink, rfl⟩
        · exact .inl (hlink.trans (State.emptyHand_spares _))
      · exact .inl hlink
  · exact .next (.inl (.refl s))

theorem execResetPart_spares : Answers (Spares s) (execResetPart s) := by
  have hreply : ∀ t, Spares s t →
      Spares s (if t.awaits = some .resetPart then t.replyInHand [codeOk] else t) := fun t ht => by
    split
    · exact ht.trans (State.replyInHand_spares _ _)
    · exact ht
  refine .next (hreply _ ?_)
  split
  · exact .refl s
  · exact State.placeFrame_spares s _

/-! ### All commands -/

/-- The commands that can write a collection, or hand orders or removals to the grant unit. -/
def restricts : Instr → Bool
  | .powerOnReset | .replySent | .lookup | .reevaluation | .restrictionOrder | .clearAtGrantUnit | .removalOrder
  | .setSource .. | .releaseLatch _ => true
  | _ => false

/-- A request spares the collections where its owning block does. -/
theorem State.serve_spares {s : State} {r : State × List Byte} (i : Instr) (h : Spares s r.1) :
    Answers (Spares s) (.next (State.serve i r)) :=
  .next (h.trans (State.answer_spares r.1 i r.2))

/-- A query leaves the state but for its reply. -/
theorem State.query_spares {s : State} {r : State × List Byte} (i : Instr) (h : r.1 = s) :
    Answers (Spares s) (.next (State.serve i r)) :=
  State.serve_spares i (h ▸ .refl _)

/-- A request with a degree or action list, which is refused where the list is ill formed. -/
theorem State.serve_fitting_spares {s : State} {r : State × List Byte} (i : Instr) (b : Bool) (h : Spares s r.1) :
    Answers (Spares s) (.next (State.serve i (refuseIllFormed b s r))) :=
  State.serve_spares i (refuseIllFormed_fst b (.refl s) h)

/-- Every command but those of `restricts` spares the collections. -/
theorem exec_spares (i : Instr) (hi : restricts i = false) : Answers (Spares s) (exec i s) := by
  cases i with
  | monitorReading c code valid =>
    exact .next ((State.feedFault_spares _ c _).after.trans (State.distribute_spares _ c _))
  | historySample d =>
    simp only [exec, execHistorySample]
    split
    · exact .next (State.takeSample_spares _ d _).after
    · exact .next (.refl s)
  | snapshotWrite =>
    simp only [exec, execSnapshotWrite]
    split
    · exact .next (State.writeSnapshot_spares _ _ _ _).after
    all_goals exact .next (.refl s)
  | forcedClear d =>
    simp only [exec, execForcedClear]
    split
    · exact .next (State.forceClear_spares _ d).after
    · exact .next (.refl s)
  | contactLevelChange k => exact .next (.of_eq rfl rfl)
  | debounceExpiry k =>
    simp only [exec, execDebounceExpiry]
    split
    · exact .next (State.acceptContact_spares s k)
    · exact .next (.refl s)
  | masterShutAssertion =>
    refine .next ?_
    split
    · exact .of_eq rfl rfl
    · exact (State.raise_spares _ _).after
  | masterShutDeassertion => exact .next (.of_eq rfl rfl)
  | clearDelayExpiry =>
    simp only [exec, execClearDelayExpiry]
    split
    · exact .next (State.clearDue_spares _ _ _).after
    · exact .next (.refl s)
  | cutOrder =>
    simp only [exec, execCutOrder]
    split
    · exact .next (State.takeCut_spares _ _ _).after
    all_goals exact .next (.refl s)
  | lockOrder =>
    simp only [exec, execLockOrder]
    split
    · exact .next (State.takeLock_spares _ _ _).after
    all_goals exact .next (.refl s)
  | clearAtSpanController =>
    simp only [exec, execClearAtSpanController]
    split
    · exact .next (State.takeSpanClear_spares _ _ _).after
    all_goals exact .next (.refl s)
  | blockerReexamination =>
    simp only [exec, execBlockerReexamination]
    split
    · exact .next (State.reexamine_spares _ _).after
    all_goals exact .next (.refl s)
  | settleExpiry d =>
    simp only [exec, execSettleExpiry]
    split
    · exact .next (State.enterAwait_spares s ..)
    · exact .next (.refl s)
  | intervalExpiry d =>
    simp only [exec, execIntervalExpiry]
    split
    · split
      · exact .next (.of_eq rfl rfl)
      · exact .next (State.intervalInAwait_spares _ d).after
      all_goals exact .next (.refl s)
    · exact .next (.refl s)
  | probeTimerExpiry d =>
    simp only [exec, execProbeTimerExpiry]
    split
    · split
      · exact .next (State.moveSpan_spares s ..)
      · exact .next (State.enterAwait_spares s ..)
      all_goals exact .next (State.failProbe_spares s d)
    · exact .next (.refl s)
  | requestTimerExpiry d =>
    simp only [exec, execRequestTimerExpiry]
    split <;> exact .next (.of_eq rfl rfl)
  | rampStepExpiry d =>
    simp only [exec, execRampStepExpiry]
    split
    · exact .next (State.stepRamp_spares s d)
    · exact .next (.refl s)
  | farWordAtSpanController d =>
    simp only [exec, execFarWordAtSpanController]
    split
    · exact .next (State.takeFarWord_spares _ d _).after
    all_goals exact .next (.refl s)
  | siteOrdinalChange d =>
    simp only [exec, execSiteOrdinalChange]
    split
    · exact .next (State.takeOrdinalChange_spares _ d _).after
    all_goals exact .next (.refl s)
  | spanWordSend d => exact .next (.of_eq rfl rfl)
  | spanWordReceived d l idle =>
    have hbytes : Spares s (l.foldl (State.receiveByte d) s) := Spares.foldl (State.receiveByte_spares d) l s
    refine .next ?_
    split
    · exact hbytes.trans (State.fallIdle_spares _ d)
    · exact hbytes
  | lineTimerExpiry d =>
    simp only [exec, execLineTimerExpiry]
    split
    · exact .next (State.lineDecides_spares _ _ _ _).after
    · exact .next (.refl s)
  | captureTrigger d =>
    simp only [exec, execCaptureTrigger]
    split
    · exact .next (State.takeTrigger_spares _ d _).after
    · exact .next (.refl s)
  | claimNotice n =>
    simp only [exec, execClaimNotice]
    split
    · exact .next (State.takeNotice_spares (s.dropClaimEvent (.notice n)) n).after
    · exact .next (.refl s)
  | claimBreak c =>
    simp only [exec, execClaimBreak]
    split
    · exact .next (State.endClaim_spares (s.dropClaimEvent (.breakBy c)) _).after
    · exact .next (.refl s)
  | claimLifeExpiry =>
    simp only [exec, execClaimLifeExpiry]
    split
    · refine .next ?_
      split
      · exact State.endClaim_spares s _
      · exact .refl s
    · exact .next (.refl s)
  | counterZeroing =>
    simp only [exec, execCounterZeroing]
    split <;> exact .next (.of_eq rfl rfl)
  | rewrittenSnapshotWrite =>
    simp only [exec, execRewrittenSnapshotWrite]
    split
    · exact .next (State.rewriteSnapshot_spares _ _ _ _).after
    all_goals exact .next (.refl s)
  | reportEnqueue c =>
    simp only [exec, execReportEnqueue]
    split <;> exact .next (.of_eq rfl rfl)
  | hostByteReceived b => exact .next (State.frameByte_spares s b)
  | characterError =>
    simp only [exec, execCharacterError]
    split <;> exact .next (.of_eq rfl rfl)
  | resync => exact .next (.of_eq rfl rfl)
  | gapTimerExpiry =>
    simp only [exec, execGapTimerExpiry]
    split <;> exact .next (.of_eq rfl rfl)
  | frameComplete =>
    simp only [exec, execFrameComplete]
    split
    · exact .next (State.placeFrame_spares _ _).after
    · exact .next (.refl s)
  | setChannel c d g => exact State.serve_spares _ (State.takeSetChannel_spares s c d g)
  | getReading a b => exact State.query_spares _ (State.takeGetReading_state s a b)
  | setContact k u l d t => exact State.serve_spares _ (State.takeSetContact_spares s k u l d t)
  | getContact => exact State.query_spares _ rfl
  | getConditions a b => exact State.query_spares _ (State.takeGetConditions_state s a b)
  | putEntry p g k c n as x w =>
    exact State.serve_fitting_spares _ _ (State.takePutEntry_spares s p g k c n as x w)
  | parkEntry e => exact State.serve_spares _ (State.takeParkEntry_spares s e)
  | unparkEntry e => exact State.serve_spares _ (State.takeUnparkEntry_spares s e)
  | freeEntry e => exact State.serve_spares _ (State.takeFreeEntry_spares s e)
  | getEntry e => exact State.query_spares _ (State.takeGetEntry_state s e)
  | testKey k a b => exact State.query_spares _ (State.takeTestKey_state s k a b)
  | holdSource i h => exact State.serve_spares _ (State.takeHoldSource_spares s i h)
  | getSource i => exact State.query_spares _ (State.takeGetSource_state s i)
  | setSpan d c => exact State.serve_spares _ (State.takeSetSpan_spares s d c)
  | lock d => exact State.serve_spares _ (State.takeLockRequest_spares s d)
  | resume n l => exact State.serve_fitting_spares _ _ (State.spanCommit_spares s n l _ (State.release_spares _) _)
  | unlock n l => exact State.serve_fitting_spares _ _ (State.spanCommit_spares s n l _ (State.release_spares _) _)
  | getSpan d => exact State.query_spares _ (State.takeGetSpan_state s d)
  | probeNow n t l =>
    exact State.serve_fitting_spares _ _ (State.spanCommit_spares s n l _ (State.probeManually_spares _) _)
  | setSite o a b c d => exact State.serve_spares _ (State.takeSetSite_spares s o a b c d)
  | getLine d => exact State.serve_spares _ (State.takeGetLine_spares s d)
  | setProfile p d l a m => exact State.serve_spares _ (State.takeSetProfile_spares s p d l a m)
  | getProfile p d => exact State.query_spares _ (State.takeGetProfile_state s p d)
  | selectProfile p => exact State.serve_spares _ (State.takeSelectProfile_spares s p)
  | claim n l => exact State.serve_fitting_spares _ _ (State.takeClaim_spares s n l)
  | getClaim => exact State.query_spares _ rfl
  | readCapture b p => exact State.query_spares _ (State.takeReadCapture_state s b p)
  | releaseCapture b => exact State.serve_spares _ (State.takeReleaseCapture_spares s b)
  | getCapture => exact State.query_spares _ rfl
  | readReports => exact State.serve_spares _ (.of_eq rfl rfl)
  | setNotify m =>
    refine State.serve_spares _ ?_
    unfold State.takeSetNotify
    split <;> exact .of_eq rfl rfl
  | identify => exact State.query_spares _ rfl
  | resetPart => exact execResetPart_spares s
  | _ => cases hi

end Sys2Proof.Machine
end

section
/-! SUPPORT and O56. What an order, a clear, a removal and a release do to a safe collection (R65 to R70), what the
hazard map hands to the grant unit (R54, R142), and that every step keeps the collections safe. -/

namespace Sys2Proof.Machine

/-! ### One collection -/

theorem CollectionSafe.of_collection {x y : Source} (h : CollectionSafe x) (e : y.collection = x.collection) :
    CollectionSafe y := by
  obtain ⟨hr, ho⟩ := Prod.mk.inj e
  obtain ⟨ho, -⟩ := Prod.mk.inj ho
  exact ⟨hr ▸ h.capacity, hr ▸ h.origins, hr ▸ h.floors, hr ▸ h.latches, fun hx => hr ▸ h.overflow (ho ▸ hx)⟩

/-- A collection that holds no record is safe without an overflow mark. -/
theorem collectionSafe_of_empty {x : Source} (hr : x.restrictions = []) (ho : x.overflow = false) :
    CollectionSafe x where
  capacity := by simp [hr]
  origins := by simp [hr]
  floors := by simp [hr]
  latches := by simp [hr]
  overflow h := absurd (ho.symm.trans h) Bool.false_ne_true

/-- A record where an order of its origin replaces it (R66). -/
def Restriction.replaced (c : Ceiling) (p : Persistence) (o : Origin) (r : Restriction) : Restriction :=
  if r.origin = o then { r with ceiling := c, persistence := p, latched := false } else r

theorem Restriction.replaced_origin (c : Ceiling) (p : Persistence) (o : Origin) (r : Restriction) :
    (r.replaced c p o).origin = r.origin := by
  unfold Restriction.replaced
  split <;> rfl

theorem Restriction.replaced_cases (c : Ceiling) (p : Persistence) (o : Origin) (r : Restriction) :
    (r.origin = o ∧ (r.replaced c p o).persistence = p ∧ (r.replaced c p o).latched = false) ∨
      r.replaced c p o = r := by
  unfold Restriction.replaced
  split
  · next h => exact .inl ⟨h, rfl, rfl⟩
  · exact .inr rfl

theorem CollectionSafe.replace {x : Source} (h : CollectionSafe x) (c : Ceiling) {p : Persistence} {o : Origin}
    (ho : o.entry = none → p = .follow) :
    CollectionSafe { x with restrictions := x.restrictions.map (Restriction.replaced c p o) } where
  capacity := (List.length_map _).trans_le h.capacity
  origins := by
    rw [List.map_map, funext (Restriction.replaced_origin c p o) (f := Restriction.origin ∘ _)]
    exact h.origins
  floors := List.forall_mem_map.mpr fun r hr he => by
    rw [Restriction.replaced_origin] at he
    obtain ⟨e, hp, -⟩ | e := r.replaced_cases c p o
    · exact hp.trans (ho (e ▸ he))
    · rw [e]
      exact h.floors r hr he
  latches := List.forall_mem_map.mpr fun r hr hl => by
    obtain ⟨-, -, hf⟩ | e := r.replaced_cases c p o
    · exact absurd (hf.symm.trans hl) Bool.false_ne_true
    · rw [e] at hl ⊢
      exact h.latches r hr hl
  overflow hx := fun he => h.overflow hx (List.map_eq_nil_iff.mp he)

theorem CollectionSafe.append {x : Source} (h : CollectionSafe x) {r : Restriction} (hlt : x.restrictions.length < 8)
    (hnew : r.origin ∉ x.restrictions.map Restriction.origin) (hfloor : r.origin.entry = none → r.persistence = .follow)
    (hactive : r.latched = false) : CollectionSafe { x with restrictions := x.restrictions ++ [r] } where
  capacity := by simpa using hlt
  origins := by
    rw [List.map_append]
    exact List.nodup_append'.mpr ⟨h.origins, List.nodup_singleton _, by simpa using hnew⟩
  floors := List.forall_mem_append.mpr ⟨h.floors, List.forall_mem_singleton.mpr hfloor⟩
  latches := List.forall_mem_append.mpr
    ⟨h.latches, List.forall_mem_singleton.mpr fun hl => absurd (hactive.symm.trans hl) Bool.false_ne_true⟩
  overflow _ := by simp

/-- An order, whose persistence is FOLLOW where it is a floor's, leaves a safe collection safe: it replaces the record
of its origin, or is added below the capacity, or marks a collection that is full (R66, R67). -/
theorem CollectionSafe.takeOrder {x : Source} (h : CollectionSafe x) (c : Ceiling) {p : Persistence} {o : Origin}
    (ho : o.entry = none → p = .follow) : CollectionSafe (x.takeOrder c p o) := by
  unfold Source.takeOrder
  split
  · exact h.replace c ho
  · next hnew =>
    split
    · next hlt => exact h.append hlt (by simpa using hnew) ho rfl
    · next hfull =>
      exact ⟨h.capacity, h.origins, h.floors, h.latches, fun _ he => hfull (by rw [he]; decide)⟩

/-- Records that leave a safe collection leave it safe, where those that stay keep their origins and are FOLLOW and
LATCH as they must; the overflow mark goes with the last of them (R67). -/
theorem CollectionSafe.withRestrictions {x : Source} (h : CollectionSafe x) {l : List Restriction}
    (hsub : (l.map Restriction.origin).Sublist (x.restrictions.map Restriction.origin))
    (hfloors : ∀ r ∈ l, r.origin.entry = none → r.persistence = .follow)
    (hlatches : ∀ r ∈ l, r.latched = true → r.persistence = .latch) : CollectionSafe (x.withRestrictions l) where
  capacity := by
    have hlength := hsub.length_le
    rw [List.length_map, List.length_map] at hlength
    exact hlength.trans h.capacity
  origins := hsub.nodup h.origins
  floors := hfloors
  latches := hlatches
  overflow := by
    rintro hx rfl
    simp [Source.withRestrictions] at hx

theorem CollectionSafe.filter {x : Source} (h : CollectionSafe x) (q : Restriction → Bool) :
    CollectionSafe (x.withRestrictions (x.restrictions.filter q)) :=
  h.withRestrictions (List.filter_sublist.map _) (fun r hr => h.floors r (List.mem_of_mem_filter hr))
    fun r hr => h.latches r (List.mem_of_mem_filter hr)

/-- A record that a clear leaves is as it was, or is LATCHED and LATCH (R68). -/
theorem Restriction.takeClear_some {k : Key} {r r' : Restriction} (h : Restriction.takeClear k r = some r') :
    r'.origin = r.origin ∧ (r' = r ∨ r.persistence = .latch ∧ r'.persistence = .latch) := by
  unfold Restriction.takeClear at h
  split at h
  · split at h
    · cases h
    · next hp => cases h; exact ⟨rfl, .inr ⟨hp, hp⟩⟩
  · cases h; exact ⟨rfl, .inl rfl⟩

theorem origins_takeClear_sublist (k : Key) (l : List Restriction) :
    ((l.filterMap (Restriction.takeClear k)).map Restriction.origin).Sublist (l.map Restriction.origin) := by
  induction l with
  | nil => exact .slnil
  | cons r l ih =>
    rw [List.filterMap_cons, List.map_cons]
    split
    · exact ih.cons _
    · next hr =>
      rw [List.map_cons, (Restriction.takeClear_some hr).1]
      exact ih.cons_cons _

theorem CollectionSafe.takeClear {x : Source} (h : CollectionSafe x) (k : Key) : CollectionSafe (x.takeClear k) := by
  have hkept : CollectionSafe (x.withRestrictions (x.restrictions.filterMap (Restriction.takeClear k))) := by
    refine h.withRestrictions (origins_takeClear_sublist k _) (fun r' hr' he => ?_) fun r' hr' hl => ?_
    all_goals
      obtain ⟨r, hr, hc⟩ := List.mem_filterMap.mp hr'
      obtain ⟨ho, rfl | ⟨hp, hp'⟩⟩ := Restriction.takeClear_some hc
    · exact h.floors r' hr he
    · exact absurd (hp.symm.trans (h.floors r hr (ho ▸ he))) (by decide)
    · exact h.latches r' hr hl
    · exact hp'
  have hcleared : CollectionSafe (if x.restrictions.filterMap (Restriction.takeClear k) = x.restrictions then x
      else x.withRestrictions (x.restrictions.filterMap (Restriction.takeClear k))) := by
    split
    · exact h
    · exact hkept
  unfold Source.takeClear
  dsimp only
  split
  · exact ⟨hcleared.capacity, hcleared.origins, hcleared.floors, hcleared.latches, hcleared.overflow⟩
  · exact hcleared

theorem CollectionSafe.takeRemoval {x : Source} (h : CollectionSafe x) (o : Origin) :
    CollectionSafe (x.takeRemoval o) := by
  unfold Source.takeRemoval
  dsimp only
  split
  · exact h
  · exact h.filter _

theorem CollectionSafe.takeRelease {x : Source} (h : CollectionSafe x) : CollectionSafe x.takeRelease := h.filter _

theorem CollectionSafe.applyFloors {x : Source} (h : CollectionSafe x) (s : State) :
    CollectionSafe (s.applyFloors x) := by
  unfold State.applyFloors
  generalize s.cond.active = l
  induction l generalizing x with
  | nil => exact h
  | cons r l ih =>
    refine ih ?_
    dsimp only
    split
    · exact h.takeOrder _ fun _ => rfl
    · exact h

/-! ### The sources of a state, and what is on its way to them -/

/-- An order on its way to the grant unit is FOLLOW where it is a floor's (R52, R65). -/
def GrantEvent.FloorFollows : GrantEvent → Prop
  | .restriction _ _ p o => o.entry = none → p = .follow
  | .removal _ | .clear _ => True

theorem State.collectionsSafe_iff (s : State) :
    s.CollectionsSafe ↔ (∀ i, CollectionSafe (s.source i)) ∧ ∀ e ∈ s.transit.toGrant, e.FloorFollows := by
  refine ⟨fun h => ⟨h.collections, fun e he => ?_⟩, fun h => ⟨h.1, fun _ _ _ _ he => h.2 _ he⟩⟩
  cases e with
  | restriction t c p o => exact h.orders t c p o he
  | removal => trivial
  | clear => trivial

theorem State.CollectionsSafe.of_spares {s t : State} (hs : s.CollectionsSafe) (h : Spares s t) :
    t.CollectionsSafe := by
  rw [State.collectionsSafe_iff] at hs ⊢
  refine ⟨fun i => (hs.1 i).of_collection (h.collections i), fun e he => ?_⟩
  obtain he | ⟨k, rfl⟩ := h.handed e he
  · exact hs.2 e he
  · trivial

theorem State.CollectionsSafe.setSource {s : State} (hs : s.CollectionsSafe) (i : SourceNo) {x : Source}
    (hx : CollectionSafe x) : (s.setSource i x).CollectionsSafe := by
  refine ⟨fun j => ?_, hs.orders⟩
  rw [State.source_setSource]
  split
  · exact hx
  · exact hs.collections j

theorem State.CollectionsSafe.updateSource {s : State} (hs : s.CollectionsSafe) {f : Source → Source}
    (hf : ∀ x, CollectionSafe x → CollectionSafe (f x)) (i : SourceNo) : (State.updateSource f s i).CollectionsSafe :=
  (hs.setSource i (hf _ (hs.collections i))).of_spares (State.recompute_spares false _ i)

theorem State.CollectionsSafe.updateSources {s : State} (hs : s.CollectionsSafe) {f : Source → Source}
    (hf : ∀ x, CollectionSafe x → CollectionSafe (f x)) (l : List SourceNo) :
    (l.foldl (State.updateSource f) s).CollectionsSafe := by
  induction l generalizing s with
  | nil => exact hs
  | cons i l ih => exact ih (hs.updateSource hf i)

/-- The grant unit takes the oldest event it was handed. -/
theorem State.CollectionsSafe.dropGrant {s : State} (hs : s.CollectionsSafe) {e : GrantEvent} {rest : List GrantEvent}
    (h : s.transit.toGrant = e :: rest) :
    State.CollectionsSafe { s with transit := { s.transit with toGrant := rest } } :=
  ⟨hs.collections, fun t c p o ho => hs.orders t c p o (h ▸ List.mem_cons_of_mem _ ho)⟩

theorem State.CollectionsSafe.handGrantAll {s : State} (hs : s.CollectionsSafe) {l : List GrantEvent}
    (hl : ∀ e ∈ l, e.FloorFollows) : (s.handGrantAll l).CollectionsSafe := by
  induction l generalizing s with
  | nil => exact hs
  | cons e l ih =>
    obtain ⟨he, hl⟩ := List.forall_mem_cons.mp hl
    refine ih ?_ hl
    rw [State.collectionsSafe_iff] at hs ⊢
    exact ⟨hs.1, List.forall_mem_append.mpr ⟨hs.2, List.forall_mem_singleton.mpr he⟩⟩

theorem State.CollectionsSafe.setQueue {s : State} (hs : s.CollectionsSafe) (q : List MapItem) :
    (s.setQueue q).CollectionsSafe := hs.of_spares (.of_eq rfl rfl)

/-! ### What the hazard map hands (R54, R142) -/

theorem floorEvents_follow (k : Key) : ∀ e ∈ floorEvents k, e.FloorFollows := by
  unfold floorEvents
  split
  · exact List.forall_mem_singleton.mpr fun _ => rfl
  · exact List.forall_mem_nil _

theorem entryEvents_follow (k : Key) (l : List (EntryNo × EntryContent)) : ∀ e ∈ entryEvents k l, e.FloorFollows := by
  intro e he
  obtain ⟨x, -, he⟩ := List.mem_flatMap.mp he
  obtain ⟨a, -, rfl⟩ := List.mem_map.mp he
  exact fun h => nomatch h

theorem State.removalsOf_follow (s : State) (r : CondRecord) : ∀ e ∈ s.removalsOf r, e.FloorFollows := by
  intro e he
  obtain ⟨x, -, rfl⟩ := List.mem_map.mp he
  trivial

theorem State.handSpanAll_spares (s : State) (l : List SpanEvent) : Spares s (s.handSpanAll l) :=
  Spares.foldl (fun s e => Spares.of_eq (t := s.handSpan e) rfl rfl) l s

theorem State.handSnapshot_spares (s : State) (e : SnapshotEvent) : Spares s (s.handSnapshot e) := .of_eq rfl rfl

theorem State.CollectionsSafe.lookUp {s : State} (hs : s.CollectionsSafe) (k : Key) : (s.lookUp k).CollectionsSafe := by
  have horders := hs.handGrantAll (l := floorEvents k ++ entryEvents k (s.contents (s.matchedList k)))
    (List.forall_mem_append.mpr ⟨floorEvents_follow k, entryEvents_follow k _⟩)
  exact horders.of_spares (((State.handSpanAll_spares _ _).trans (State.handSpanAll_spares _ _)).trans
    (State.handSnapshot_spares _ _))

theorem State.CollectionsSafe.reevaluate {s : State} (hs : s.CollectionsSafe) : s.reevaluate.CollectionsSafe := by
  have hremovals := hs.handGrantAll (l := s.covered.flatMap s.removalsOf)
    (List.forall_mem_flatMap.mpr fun r _ => s.removalsOf_follow r)
  have horders := hremovals.handGrantAll (l := s.covered.flatMap fun r => entryEvents r.key (s.arrivals r))
    (List.forall_mem_flatMap.mpr fun r _ => entryEvents_follow r.key _)
  exact horders.of_spares ((State.handSpanAll_spares _ _).trans
    (Spares.foldl (fun t r => State.handSnapshot_spares t (s.rewritten r)) _ _))

/-! ### The requests that write a collection, and the resets -/

theorem State.CollectionsSafe.takeSetSource {s : State} (hs : s.CollectionsSafe) (i e d : Byte) (f r p : Half) :
    (s.takeSetSource i e d f r p).1.CollectionsSafe := by
  unfold State.takeSetSource
  split
  · next n _ _ _ =>
    refine (hs.setSource n ?_).of_spares (State.recompute_spares false _ n)
    have hstored := (hs.collections n)
    split
    · exact hstored.of_collection rfl
    · exact CollectionSafe.applyFloors (hstored.of_collection (by rfl)) s
  · exact hs

theorem State.CollectionsSafe.commit {s : State} (hs : s.CollectionsSafe) (m : DegSet) (p : Degree → Reason)
    {f : State → Degree → State} (hf : ∀ t d, t.CollectionsSafe → (f t d).CollectionsSafe) (ok : Byte) :
    (s.commit m p f ok).1.CollectionsSafe := by
  have hend := hs.of_spares (State.endClaim_spares s .consumed)
  unfold State.commit
  dsimp only
  split
  · exact hend
  · split
    · exact List.foldlRecOn _ _ hend fun t ht d _ => hf t d ht
    · exact hend

theorem State.CollectionsSafe.takeReleaseLatch {s : State} (hs : s.CollectionsSafe) (i : Byte) :
    (s.takeReleaseLatch i).1.CollectionsSafe := by
  have hrelease : ∀ x, CollectionSafe x → CollectionSafe x.takeRelease := fun x hx => hx.takeRelease
  unfold State.takeReleaseLatch
  split
  · exact hs
  · split
    · exact hs.commit _ _ (fun t _ ht => ht.updateSource hrelease _) _
    · exact hs.updateSource hrelease _

theorem State.softReset_collectionsSafe (s : State) : s.softReset.CollectionsSafe := by
  have hblocks : s.softResetBlocks.CollectionsSafe := by
    refine ⟨fun i => ?_, fun _ _ _ _ he => absurd he List.not_mem_nil⟩
    rw [State.softResetBlocks_source]
    exact collectionSafe_of_empty rfl rfl
  exact hblocks.of_spares (State.leaveReset_spares _)

theorem State.powerOn_collectionsSafe (s : State) : s.powerOn.CollectionsSafe := by
  have hblocks : s.powerOnBlocks.CollectionsSafe := by
    refine ⟨fun i => ?_, fun _ _ _ _ he => absurd he List.not_mem_nil⟩
    have hi : s.powerOnBlocks.source i = defaultSource := look_replicate _ i
    rw [hi]
    exact collectionSafe_of_empty rfl rfl
  exact hblocks.of_spares (State.leaveReset_spares _)

/-! ### All commands -/

theorem exec_collectionsSafe {s : State} (hs : s.CollectionsSafe) (i : Instr) :
    Answers State.CollectionsSafe (exec i s) := by
  cases hi : restricts i with
  | false => exact fun t ht => hs.of_spares (exec_spares s i hi t ht)
  | true =>
    cases i with
    | powerOnReset => exact .next s.powerOn_collectionsSafe
    | replySent =>
      intro t ht
      obtain h | ⟨u, -, rfl⟩ := execReplySent_spares_or_resets s t ht
      · exact hs.of_spares h
      · exact u.softReset_collectionsSafe
    | lookup =>
      simp only [exec, execLookup]
      split
      · exact .next ((hs.setQueue _).lookUp _)
      all_goals exact .next hs
    | reevaluation =>
      simp only [exec, execReevaluation]
      split
      · exact .next (hs.setQueue _).reevaluate
      all_goals exact .next hs
    | restrictionOrder =>
      simp only [exec, execRestrictionOrder]
      split
      · next t c p o rest h =>
        have hfollow : o.entry = none → p = .follow := hs.orders t c p o (h ▸ List.mem_cons_self)
        exact .next ((hs.dropGrant h).updateSources (fun x hx => hx.takeOrder c hfollow) _)
      all_goals exact .next hs
    | clearAtGrantUnit =>
      simp only [exec, execClearAtGrantUnit]
      split
      · next k rest h => exact .next ((hs.dropGrant h).updateSources (fun x hx => hx.takeClear k) _)
      all_goals exact .next hs
    | removalOrder =>
      simp only [exec, execRemovalOrder]
      split
      · next o rest h => exact .next ((hs.dropGrant h).updateSources (fun x hx => hx.takeRemoval o) _)
      all_goals exact .next hs
    | setSource i e d f r p => exact .next ((hs.takeSetSource i e d f r p).of_spares (State.answer_spares _ _ _))
    | releaseLatch i => exact .next ((hs.takeReleaseLatch i).of_spares (State.answer_spares _ _ _))
    | _ => cases hi

/-- Settles O56: every command keeps the collections safe (`exec_collectionsSafe`), and a millisecond touches none. -/
theorem everyStepKeepsCollectionsSafe : Obligations.EveryStepKeepsCollectionsSafe := by
  intro s t hs h
  unfold step at h
  split at h
  · cases h
    exact hs.of_spares (.of_eq rfl rfl)
  · next i rest _ => exact exec_collectionsSafe (s := { s with pending := rest }) ⟨hs.collections, hs.orders⟩ i t h

end Sys2Proof.Machine
end

section
/-! O28: the floor of each kind (R52), and of MONITOR_FAULT by the role of its channel (R53). -/

namespace Sys2Proof.Machine

theorem chanDegree_channel : ∀ (d : Degree) (role : Fin 4), chanDegree (channel d role) = d := by decide

theorem faultKey_channel (d : Degree) (role : Fin 4) : faultKey (channel d role) =
    { kind := .monitorFault, degree := some d, detail := some (.channel (channel d role)) } := by
  rw [faultKey, chanDegree_channel]

theorem faultRole_inn : ∀ d, faultRole (faultKey (channel d 0)) = some .inn := by decide

theorem faultRole_out : ∀ d, faultRole (faultKey (channel d 1)) = some .out := by decide

theorem faultRole_refl : ∀ d, faultRole (faultKey (channel d 2)) = some .refl := by decide

theorem faultRole_prefl : ∀ d, faultRole (faultKey (channel d 3)) = some .prefl := by decide

/-- What a lookup of a key issues by its floor alone (R52): the orders, the cut, the withheld degree. -/
def floorOf (k : Key) : List GrantEvent × DegSet × DegSet := (floorEvents k, floorCut k, floorWithhold k)

/-- R53's table. -/
theorem floorOf_faultKey (d : Degree) :
    floorOf (faultKey (channel d 0)) = ([], DegSet.one d, DegSet.one d) ∧
    floorOf (faultKey (channel d 1)) = ([], 0, 0) ∧
    floorOf (faultKey (channel d 2)) =
      ([.restriction (.exposure (.out d)) .reduced .follow { key := faultKey (channel d 2), entry := none }], 0,
        DegSet.one d) ∧
    floorOf (faultKey (channel d 3)) =
      ([.restriction (.exposure (.inn d)) .off .follow { key := faultKey (channel d 3), entry := none }], 0, 0) := by
  have hdegree : ∀ role, (faultKey (channel d role)).degree = some d := fun role => by rw [faultKey_channel]
  have hkind : ∀ role, (faultKey (channel d role)).kind = .monitorFault := fun _ => rfl
  refine ⟨?_, ?_, ?_, ?_⟩ <;> unfold floorOf floorEvents floorOrder floorCut floorWithhold
  · simp [hkind, hdegree, faultRole_inn, degSetOf]
  · simp [hkind, faultRole_out]
  · simp [hkind, hdegree, faultRole_refl, degSetOf]
  · simp [hkind, hdegree, faultRole_prefl]

theorem floorLocks_eq_nil {k : Key} (h : k.kind ≠ .keyOpen) : floorLocks k = [] := by
  unfold floorLocks
  split
  · next hk => exact absurd hk h
  all_goals rfl

/-- Settles O28: R52's table kind by kind, and R53's by role. -/
theorem theFloorOfEachKind : Obligations.TheFloorOfEachKind := by
  refine ⟨fun d => ?_, fun d n => ⟨?_, rfl, ?_⟩, rfl, rfl, rfl, fun k hk => floorLocks_eq_nil hk⟩
  · have hroles := floorOf_faultKey d
    simp only [floorOf, Prod.mk.injEq] at hroles
    obtain ⟨⟨inOrders, inCut, inWithheld⟩, ⟨outOrders, outCut, outWithheld⟩, ⟨reflOrders, reflCut, reflWithheld⟩,
      preflOrders, preflCut, preflWithheld⟩ := hroles
    refine ⟨?_, ?_, rfl, rfl, rfl, rfl, rfl, ?_, inCut, inWithheld, inOrders, outCut, outWithheld, outOrders, reflCut,
      reflWithheld, reflOrders, preflCut, preflWithheld, preflOrders⟩
    all_goals simp [degreeKey, floorEvents, floorOrder, floorCut, floorWithhold, floorLocks, degSetOf]
  · simp [floorEvents, floorOrder, floorCut, floorWithhold]
  · cases d <;> rfl

end Sys2Proof.Machine
end

section
/-! O27 and O29: what LOOKUP (R50 to R57) and REEVALUATION (R141 to R143) match and issue. -/

namespace Sys2Proof.Machine

variable (s : State)

/-! ### Events handed all together -/

theorem State.handGrantAll_eq (l : List GrantEvent) :
    s.handGrantAll l = { s with transit := { s.transit with toGrant := s.transit.toGrant ++ l } } := by
  induction l generalizing s with
  | nil => simp [State.handGrantAll]
  | cons e l ih =>
    refine (ih (s.handGrant e)).trans ?_
    simp [State.handGrant]

theorem State.handSpanAll_eq (l : List SpanEvent) :
    s.handSpanAll l = { s with transit := { s.transit with toSpan := s.transit.toSpan ++ l } } := by
  induction l generalizing s with
  | nil => simp [State.handSpanAll]
  | cons e l ih =>
    refine (ih (s.handSpan e)).trans ?_
    simp [State.handSpan]

theorem State.foldl_handSnapshot_eq {α : Type} (f : α → SnapshotEvent) (l : List α) :
    l.foldl (fun t x => State.handSnapshot t (f x)) s =
      { s with transit := { s.transit with snapshots := s.transit.snapshots ++ l.map f } } := by
  induction l generalizing s with
  | nil => simp
  | cons x l ih =>
    refine (ih (s.handSnapshot (f x))).trans ?_
    simp [State.handSnapshot]

/-! ### Matching (R39, R50, R51) -/

theorem Entry.live?_eq_some (x : Entry) (c : EntryContent) : x.live? = some c ↔ x = .live c := by
  cases x <;> simp [Entry.live?]

/-- R50's match, spelt out with R39's. -/
theorem State.mem_matchedList (k : Key) (e : EntryNo) : e ∈ s.matchedList k ↔
    ∃ c, s.entry e = .live c ∧ s.profile.mask.getLsbD c.cls = true ∧ c.key.kind = k.kind ∧
      (c.key.degree = none ∨ c.key.degree = k.degree) ∧ (c.key.detail = none ∨ c.key.detail = k.detail) := by
  simp only [← Entry.live?_eq_some, ← keyMatches_iff]
  rw [State.matchedList, List.mem_filter, and_iff_right (List.mem_finRange e), State.candidateMatches]
  cases (s.entry e).live? <;> simp

theorem State.mem_contents (l : List EntryNo) (x : EntryNo × EntryContent) :
    x ∈ s.contents l ↔ x.1 ∈ l ∧ s.entry x.1 = .live x.2 := by
  obtain ⟨e, c⟩ := x
  simp [State.contents, Entry.live?_eq_some]

/-! ### Orders, cuts and withheld degrees (R54, R55, R57) -/

/-- The restriction orders that entry `e` issues for key `k`, in the order of its action list (R54). -/
def State.ordersOf (k : Key) (e : EntryNo) : List GrantEvent :=
  match s.entry e with
  | .live c => c.actions.map fun a =>
      .restriction (.one a.source) a.ceiling a.persistence { key := k, entry := some e }
  | .free => []
  | .parked _ => []

theorem State.entryEvents_contents (k : Key) (l : List EntryNo) :
    entryEvents k (s.contents l) = l.flatMap (s.ordersOf k) := by
  induction l with
  | nil => rfl
  | cons e l ih =>
    have hcons : s.contents (e :: l) = s.contents [e] ++ s.contents l := List.filterMap_append (l := [e]) ..
    rw [hcons, entryEvents, List.flatMap_append, List.flatMap_cons]
    refine congrArg₂ (· ++ ·) ?_ ih
    cases h : s.entry e <;> simp [State.contents, State.ordersOf, h, Entry.live?]

theorem cutUnion_getLsbD (l : List (EntryNo × EntryContent)) (d : Degree) :
    (cutUnion l).getLsbD d = true ↔ ∃ x ∈ l, x.2.cut.getLsbD d = true := by
  induction l with
  | nil => simp [cutUnion]
  | cons x l ih =>
    rw [cutUnion, List.foldr_cons, BitVec.getLsbD_or, Bool.or_eq_true, List.exists_mem_cons_iff]
    exact or_congr_right ih

theorem withholdUnion_getLsbD (l : List (EntryNo × EntryContent)) (d : Degree) :
    (withholdUnion l).getLsbD d = true ↔ ∃ x ∈ l, x.2.withhold.getLsbD d = true := by
  induction l with
  | nil => simp [withholdUnion]
  | cons x l ih =>
    rw [withholdUnion, List.foldr_cons, BitVec.getLsbD_or, Bool.or_eq_true, List.exists_mem_cons_iff]
    exact or_congr_right ih

theorem State.exists_mem_contents (l : List EntryNo) (p : EntryContent → Prop) :
    (∃ x ∈ s.contents l, p x.2) ↔ ∃ e ∈ l, ∃ c, s.entry e = .live c ∧ p c := by
  simp only [State.mem_contents, Prod.exists, and_assoc, exists_and_left]

theorem State.cutUnion_contents (l : List EntryNo) (d : Degree) : (cutUnion (s.contents l)).getLsbD d = true ↔
    ∃ e ∈ l, ∃ c, s.entry e = .live c ∧ c.cut.getLsbD d = true :=
  (cutUnion_getLsbD ..).trans (s.exists_mem_contents l fun c => c.cut.getLsbD d = true)

theorem State.withholdUnion_contents (l : List EntryNo) (d : Degree) :
    (withholdUnion (s.contents l)).getLsbD d = true ↔
      ∃ e ∈ l, ∃ c, s.entry e = .live c ∧ c.withhold.getLsbD d = true :=
  (withholdUnion_getLsbD ..).trans (s.exists_mem_contents l fun c => c.withhold.getLsbD d = true)

/-- The degrees that a key's floor or an entry of its new list withholds (R57, R143). -/
theorem State.withheld_getLsbD (k : Key) (l : List EntryNo) (d : Degree) :
    (withholdUnion (s.contents l) ||| floorWithhold k).getLsbD d = true ↔
      (floorWithhold k).getLsbD d = true ∨ ∃ e ∈ l, ∃ c, s.entry e = .live c ∧ c.withhold.getLsbD d = true := by
  rw [BitVec.getLsbD_or, Bool.or_eq_true, s.withholdUnion_contents, or_comm]

/-! ### LOOKUP -/

/-- The degrees that a lookup of key `k` cuts (R55). -/
def State.lookupCuts (k : Key) : DegSet := cutUnion (s.contents (s.matchedList k)) ||| floorCut k

/-- The degrees that a lookup of key `k` withholds (R57). -/
def State.lookupWithheld (k : Key) : DegSet := withholdUnion (s.contents (s.matchedList k)) ||| floorWithhold k

theorem State.lookUp_eq (k : Key) : s.lookUp k = { s with transit := { s.transit with
    toGrant := s.transit.toGrant ++ floorEvents k ++ (s.matchedList k).flatMap (s.ordersOf k)
    toSpan := s.transit.toSpan ++ cutEvents k (s.lookupCuts k) ++ lockEvents k
    snapshots := s.transit.snapshots ++ [.lookup k (s.matchedList k) (s.lookupWithheld k)] } } := by
  unfold State.lookUp
  simp only [State.handGrantAll_eq, State.handSpanAll_eq, State.handSnapshot, State.entryEvents_contents,
    List.append_assoc]
  rfl

theorem execLookup_key {s : State} {k : Key} {rest : List MapItem} (h : s.map.queue = .key k :: rest) :
    exec .lookup s = .next ((s.setQueue rest).lookUp k) := by
  simp only [exec, execLookup, h]

/-- Settles O27: the matched list by `State.mem_matchedList`, and what is handed by `State.lookUp_eq`. -/
theorem aLookupIssuesItsOrders : Obligations.ALookupIssuesItsOrders := by
  intro k rest s h
  refine ⟨_, s.matchedList k, s.lookupCuts k, s.lookupWithheld k, execLookup_key h, s.matchedList_pairwise k,
    s.mem_matchedList k, fun d => ?_, s.withheld_getLsbD k _, (s.setQueue rest).lookUp_eq k⟩
  rw [State.lookupCuts, BitVec.getLsbD_or, Bool.or_eq_true, s.cutUnion_contents, or_comm]

/-! ### REEVALUATION -/

theorem State.previousList_of_none {r : CondRecord} (h : ∀ e ∈ s.transit.snapshots, e.keyed.1 ≠ r.key) :
    s.previousList r = r.matched := by
  have hnone : s.transit.snapshots.reverse.find? (fun e => e.keyed.1 == r.key) = none :=
    List.find?_eq_none.mpr fun e he => by simpa using h e (List.mem_reverse.mp he)
  rw [State.previousList, hnone]

theorem State.previousList_of_newest {r : CondRecord} {a b : List SnapshotEvent} {e : SnapshotEvent}
    (h : s.transit.snapshots = a ++ e :: b) (he : e.keyed.1 = r.key) (hb : ∀ x ∈ b, x.keyed.1 ≠ r.key) :
    s.previousList r = e.keyed.2 := by
  have hnewest : s.transit.snapshots.reverse.find? (fun e => e.keyed.1 == r.key) = some e := by
    rw [h, List.reverse_append, List.reverse_cons, List.append_assoc, List.find?_append,
      List.find?_eq_none.mpr fun x hx => by simpa using hb x (List.mem_reverse.mp hx)]
    simp [he]
  rw [State.previousList, hnewest]

theorem State.covered_eq : s.covered =
    s.cond.active.filter fun r => decide (MapItem.key r.key ∉ s.map.queue) := by
  simp [State.covered]

theorem State.removalsOf_eq (r : CondRecord) : s.removalsOf r =
    ((List.finRange 64).filter fun e => decide (e ∈ s.previousList r ∧ e ∉ s.matchedList r.key)).map fun e =>
      .removal { key := r.key, entry := some e } := by
  simp [State.removalsOf]

/-- The entries that arrive in a covered record's list (R141). -/
def State.arriving (r : CondRecord) : List EntryNo :=
  (s.matchedList r.key).filter fun e => decide (e ∉ s.previousList r)

theorem State.arrivals_eq (r : CondRecord) : s.arrivals r = s.contents (s.arriving r) := by
  simp [State.arrivals, State.arriving]

theorem State.cutUnion_arrivals (r : CondRecord) (d : Degree) : (cutUnion (s.arrivals r)).getLsbD d = true ↔
    ∃ e ∈ s.matchedList r.key, e ∉ s.previousList r ∧ ∃ c, s.entry e = .live c ∧ c.cut.getLsbD d = true := by
  rw [State.arrivals_eq, State.cutUnion_contents]
  simp [State.arriving, and_assoc]

theorem State.reevaluate_eq : s.reevaluate = { s with transit := { s.transit with
    toGrant := s.transit.toGrant ++ s.covered.flatMap s.removalsOf ++
      s.covered.flatMap fun r => (s.arriving r).flatMap (s.ordersOf r.key)
    toSpan := s.transit.toSpan ++ s.covered.flatMap fun r => cutEvents r.key (cutUnion (s.arrivals r))
    snapshots := s.transit.snapshots ++ s.covered.map s.rewritten } } := by
  have horders : (fun r => entryEvents r.key (s.arrivals r)) = fun r => (s.arriving r).flatMap (s.ordersOf r.key) :=
    funext fun r => by rw [State.arrivals_eq, State.entryEvents_contents]
  rw [State.reevaluate, horders]
  dsimp only
  rw [State.foldl_handSnapshot_eq, State.handSpanAll_eq, State.handGrantAll_eq, State.handGrantAll_eq]

theorem execReevaluation_taken {s : State} {rest : List MapItem} (h : s.map.queue = .reevaluate :: rest) :
    exec .reevaluation s = .next (s.setQueue rest).reevaluate := by
  simp only [exec, execReevaluation, h]

/-- Settles O29: the lists by `State.mem_matchedList` and `State.previousList_of_newest`, and what is handed by
`State.reevaluate_eq`. -/
theorem aReevaluationMovesEveryRecord : Obligations.AReevaluationMovesEveryRecord := by
  intro rest s h
  let u := s.setQueue rest
  refine ⟨_, u.covered, u.previousList, fun r => u.matchedList r.key, fun r => cutUnion (u.arrivals r),
    fun r => withholdUnion (u.contents (u.matchedList r.key)) ||| floorWithhold r.key, execReevaluation_taken h,
    u.covered_eq, fun r => u.previousList_of_none, fun r a e b => u.previousList_of_newest,
    fun r => u.matchedList_pairwise r.key, fun r => u.mem_matchedList r.key, u.cutUnion_arrivals,
    fun r => u.withheld_getLsbD r.key _, ?_⟩
  rw [u.reevaluate_eq, funext u.removalsOf_eq]
  rfl

end Sys2Proof.Machine
end

