-- ==== Sys2Proof/Proofs/EntryEditing.lean ====
section
/-! O30: PUT_ENTRY, PARK_ENTRY, UNPARK_ENTRY and FREE_ENTRY (R40, R43 to R46). -/

namespace Sys2Proof.Machine

/-! ### What PUT_ENTRY reads -/

theorem actionsFit_iff (n : Byte) (as : List RawAction) :
    actionsFit n as = true ↔ as.length ≤ 4 ∧ (n.toNat ≤ 4 → as.length = n.toNat) := by
  simp only [actionsFit, Bool.and_eq_true, Bool.or_eq_true, Bool.not_eq_true', decide_eq_true_eq, decide_eq_false_iff_not]
  omega

theorem targetEntry?_eq_none {g : Byte} (h1 : g ≠ 1) (h2 : g ≠ 2) : targetEntry? g = fun _ => none :=
  funext fun _ => (if_neg h1).trans (if_neg h2)

theorem targetEntry?_eq_some {g : Byte} {c : EntryContent} {y : Entry}
    (h : (g = 1 ∧ y = .live c) ∨ (g = 2 ∧ y = .parked c)) : targetEntry? g c = some y := by
  obtain ⟨rfl, rfl⟩ | ⟨rfl, rfl⟩ := h <;> rfl

theorem EntrySpelt.actionsFit {key : RawKey} {cls n : Byte} {as : List RawAction} {x w : Byte} {c : EntryContent}
    (h : EntrySpelt key cls n as x w c) : actionsFit n as = true := by
  have hlength : as.length = c.actions.length := by rw [h.actions, List.length_map]
  have hcount : n.toNat = c.actions.length := by
    have := h.capacity
    rw [h.count, BitVec.toNat_ofNat]
    omega
  exact (actionsFit_iff n as).mpr ⟨hlength ▸ h.capacity, fun _ => by omega⟩

theorem State.nextFree_eq_some {s : State} {e : EntryNo} (he : s.entry e = .free) (hlow : ∀ f < e, s.entry f ≠ .free) :
    s.nextFree = some e := by
  refine List.find?_eq_some_iff_getElem.mpr ⟨beq_iff_eq.mpr he, e.val, by simp, by simp, fun j hj => ?_⟩
  rw [List.getElem_finRange]
  simpa using hlow _ (Fin.lt_def.mpr (by simpa using hj))

theorem State.nextFree_eq_none {s : State} (h : ∀ e, s.entry e ≠ .free) : s.nextFree = none :=
  List.find?_eq_none.mpr fun e _ => by simpa using h e

/-! ### PUT_ENTRY -/

section
variable {s : State} {p g : Byte} {key : RawKey} {cls n : Byte} {as : List RawAction} {x w : Byte}

theorem State.takePutEntry_refused
    (h : (∀ c, ¬EntrySpelt key cls n as x w c) ∨ (g ≠ 1 ∧ g ≠ 2) ∨ (64 ≤ p.toNat ∧ p ≠ 0xFF)) :
    s.takePutEntry p g key cls n as x w = (s, [codeBadValue]) := by
  unfold State.takePutEntry
  obtain hcontent | ⟨h1, h2⟩ | ⟨hrange, hany⟩ := h
  · have hnone : entryContent? key cls n as x w = none :=
      Option.eq_none_iff_forall_ne_some.mpr fun c hc => hcontent c ((entryContent?_eq_some ..).mp hc)
    simp [hnone]
  · simp [targetEntry?_eq_none h1 h2]
  · simp [optIndex?_eq_none hrange hany]

theorem State.takePutEntry_placed {y : Entry} (e : EntryNo)
    (hy : (entryContent? key cls n as x w).bind (targetEntry? g) = some y)
    (hp : p = BitVec.ofNat 8 e.val ∨ (p = 0xFF ∧ s.entry e = .free ∧ ∀ f < e, s.entry f ≠ .free)) :
    s.takePutEntry p g key cls n as x w = (s.setEntry e y, [codeOk, byteOf e.val]) := by
  unfold State.takePutEntry
  obtain hindex | ⟨hany, hfree, hlow⟩ := hp
  · rw [hy, (optIndex?_eq_some (by decide) p (some e)).mpr hindex]
  · rw [hy, (optIndex?_eq_some (by decide) p none).mpr hany, State.nextFree_eq_some hfree hlow]

theorem State.takePutEntry_full {y : Entry} (hy : (entryContent? key cls n as x w).bind (targetEntry? g) = some y)
    (hfull : ∀ e, s.entry e ≠ .free) : s.takePutEntry 0xFF g key cls n as x w = (s, [codeTableFull]) := by
  unfold State.takePutEntry
  rw [hy, (optIndex?_eq_some (by decide) 0xFF none).mpr rfl, State.nextFree_eq_none hfull]

theorem execPutEntry_unfit (h : actionsFit n as = false) : exec (.putEntry p g key cls n as x w) s =
    .next (s.answer (.putEntry p g key cls n as x w) [0x11]) := by
  change Host.Outcome.next (State.serve _ (refuseIllFormed _ _ _)) = _
  rw [h]
  rfl

theorem execPutEntry_fit (h : actionsFit n as = true) : exec (.putEntry p g key cls n as x w) s =
    .next (State.serve (.putEntry p g key cls n as x w) (s.takePutEntry p g key cls n as x w)) := by
  change Host.Outcome.next (State.serve _ (refuseIllFormed _ _ _)) = _
  rw [h]
  rfl

end

/-! ### PARK_ENTRY, UNPARK_ENTRY and FREE_ENTRY -/

theorem State.setEntry_only (s : State) (e : EntryNo) (y : Entry) :
    (s.setEntry e y).entry e = y ∧ (∀ f, f ≠ e → (s.setEntry e y).entry f = s.entry f) ∧
      s.setEntry e y = { s with map := { s.map with entries := (s.setEntry e y).map.entries } } :=
  ⟨State.entry_setEntry_same s e y, fun f hf => (State.entry_setEntry s e f y).trans (if_neg hf.symm), rfl⟩

theorem index?_entryNo (e : EntryNo) : index? 64 (BitVec.ofNat 8 e.val) = some e := index?_ofNat (by decide) e

theorem State.takeFreeEntry_at (s : State) (e : EntryNo) :
    s.takeFreeEntry (BitVec.ofNat 8 e.val) = (s.setEntry e .free, [codeOk]) := by
  rw [State.takeFreeEntry, index?_entryNo]

section
variable {s : State} {e : EntryNo}

theorem State.takeParkEntry_free (h : s.entry e = .free) :
    s.takeParkEntry (BitVec.ofNat 8 e.val) = (s, [codeNotFound]) := by
  simp only [State.takeParkEntry, index?_entryNo, h]

theorem State.takeParkEntry_live {c : EntryContent} (h : s.entry e = .live c) :
    s.takeParkEntry (BitVec.ofNat 8 e.val) = (s.setEntry e (.parked c), [codeOk]) := by
  simp only [State.takeParkEntry, index?_entryNo, h]

theorem State.takeParkEntry_parked {c : EntryContent} (h : s.entry e = .parked c) :
    s.takeParkEntry (BitVec.ofNat 8 e.val) = (s, [codeOk]) := by
  simp only [State.takeParkEntry, index?_entryNo, h]

theorem State.takeUnparkEntry_free (h : s.entry e = .free) :
    s.takeUnparkEntry (BitVec.ofNat 8 e.val) = (s, [codeNotFound]) := by
  simp only [State.takeUnparkEntry, index?_entryNo, h]

theorem State.takeUnparkEntry_live {c : EntryContent} (h : s.entry e = .live c) :
    s.takeUnparkEntry (BitVec.ofNat 8 e.val) = (s, [codeOk]) := by
  simp only [State.takeUnparkEntry, index?_entryNo, h]

theorem State.takeUnparkEntry_parked {c : EntryContent} (h : s.entry e = .parked c) :
    s.takeUnparkEntry (BitVec.ofNat 8 e.val) = (s.setEntry e (.live c), [codeOk]) := by
  simp only [State.takeUnparkEntry, index?_entryNo, h]

end

/-- What a request answers whose block answers `r`. -/
theorem serve_of_eq {i : Instr} {r : State × List Byte} {t : State} {body : List Byte} (h : r = (t, body)) :
    (.next (State.serve i r) : Result) = .next (t.answer i body) := by
  rw [h]
  rfl

/-- Settles O30: each clause is what the request's block does with the case (`State.takePutEntry_refused`,
`State.takeParkEntry_live`, …), served as its reply. -/
theorem entriesAreEdited : Obligations.EntriesAreEdited := by
  refine ⟨fun p g key cls n as x w s => ⟨fun hbad => execPutEntry_unfit ?_, fun hlength hcount hbad => ?_,
    fun c y hspelt hy => ?_⟩, fun a s => ⟨fun ha => ?_, ?_⟩⟩
  · refine Bool.eq_false_iff.mpr fun h => ?_
    obtain ⟨hlength, hcount⟩ := (actionsFit_iff n as).mp h
    omega
  · rw [execPutEntry_fit ((actionsFit_iff n as).mpr ⟨hlength, hcount⟩)]
    exact serve_of_eq (State.takePutEntry_refused hbad)
  · have hentry : (entryContent? key cls n as x w).bind (targetEntry? g) = some y := by
      rw [(entryContent?_eq_some ..).mpr hspelt]
      exact targetEntry?_eq_some hy
    rw [execPutEntry_fit hspelt.actionsFit]
    refine ⟨fun e hp => serve_of_eq (State.takePutEntry_placed e hentry hp), ?_⟩
    rintro rfl hfull
    exact serve_of_eq (State.takePutEntry_full hentry hfull)
  · have hindex : index? 64 a = none := index?_eq_none ha
    refine ⟨serve_of_eq ?_, serve_of_eq ?_, serve_of_eq ?_⟩
    · rw [State.takeParkEntry, hindex]
      rfl
    · rw [State.takeUnparkEntry, hindex]
      rfl
    · rw [State.takeFreeEntry, hindex]
      rfl
  · rintro e rfl
    refine ⟨⟨_, serve_of_eq (s.takeFreeEntry_at e), s.setEntry_only e _⟩, fun h => ⟨?_, ?_⟩, fun c h => ⟨?_, ?_⟩,
      fun c h => ⟨?_, ?_⟩⟩
    · exact serve_of_eq (State.takeParkEntry_free h)
    · exact serve_of_eq (State.takeUnparkEntry_free h)
    · exact serve_of_eq (State.takeUnparkEntry_live h)
    · exact ⟨_, serve_of_eq (State.takeParkEntry_live h), s.setEntry_only e _⟩
    · exact serve_of_eq (State.takeParkEntry_parked h)
    · exact ⟨_, serve_of_eq (State.takeUnparkEntry_parked h), s.setEntry_only e _⟩

end Sys2Proof.Machine
end

