-- ==== Sys2Proof/Proofs/RequestSpelling.lean ====
section
/-! O26: what each payload reader of R181 accepts, and that it reads back what spells a request (R169, R177, R181). -/

namespace Sys2Proof.Machine

/-! ### Fields of two bytes and lists of actions (R177, R184) -/

@[simp] theorem half_extractLsb' (h : Half) : half (h.extractLsb' 8 8) (h.extractLsb' 0 8) = h :=
  (BitVec.extractLsb'_append_extractLsb'_eq_extractLsb' (start₂ := 8) (start₁ := 0) rfl).trans
    BitVec.extractLsb'_eq_self

@[simp] theorem halfBytes_half (a b : Byte) : halfBytes (half a b) = [a, b] :=
  congrArg₂ (fun x y => [x, y]) (BitVec.extractLsb'_append_eq_left (a := a) (b := b)) BitVec.extractLsb'_append_eq_right

theorem splitActions_cons (a : RawAction) {l : List Byte} (h : 2 ≤ l.length) :
    splitActions (actionBytes a ++ l) = (a :: (splitActions l).1, (splitActions l).2) := by
  match l, h with
  | _ :: _ :: _, _ => rfl

theorem splitActions_flatMap (as : List RawAction) (x w : Byte) :
    splitActions (as.flatMap actionBytes ++ [x, w]) = (as, [x, w]) := by
  induction as with
  | nil => rfl
  | cons a as ih => rw [List.flatMap_cons, List.append_assoc, splitActions_cons a (by simp), ih]

theorem splitActions_join (l : List Byte) : (splitActions l).1.flatMap actionBytes ++ (splitActions l).2 = l := by
  fun_induction splitActions l with
  | case1 a b c x y t r ih => simp [actionBytes, r, ih]
  | case2 l _ => rfl

theorem splitActions_rest_length (l : List Byte) : (splitActions l).2.length ≤ 4 := by
  fun_induction splitActions l with
  | case1 a b c x y t r ih => exact ih
  | case2 l h =>
    match l, h with
    | [], _ | [_], _ | [_, _], _ | [_, _, _], _ | [_, _, _, _], _ => simp
    | a :: b :: c :: x :: y :: t, h => exact absurd rfl (h a b c x y t)

theorem length_flatMap_actionBytes (as : List RawAction) : (as.flatMap actionBytes).length = 3 * as.length := by
  induction as with
  | nil => rfl
  | cons a as ih =>
    rw [List.flatMap_cons, List.length_append, ih, List.length_cons]
    simp only [actionBytes, List.length_cons, List.length_nil]
    omega

/-! ### Each reader reads back the payload that spells its request -/

theorem setChannelPayload_spelling (c : Byte) (d g : Half) :
    setChannelPayload (requestPayload (.setChannel c d g)) = some (.setChannel c d g) := by
  simp [requestPayload, halfBytes, setChannelPayload]

theorem setSourcePayload_spelling (i e d : Byte) (f r p : Half) :
    setSourcePayload (requestPayload (.setSource i e d f r p)) = some (.setSource i e d f r p) := by
  simp [requestPayload, halfBytes, setSourcePayload]

theorem setSpanPayload_spelling (d : Byte) (c : RawSpanConfig) :
    setSpanPayload (requestPayload (.setSpan d c)) = some (.setSpan d c) := by
  simp [requestPayload, halfBytes, setSpanPayload]

theorem setSitePayload_spelling (o a b c d : Half) :
    setSitePayload (requestPayload (.setSite o a b c d)) = some (.setSite o a b c d) := by
  simp [requestPayload, halfBytes, setSitePayload]

theorem setProfilePayload_spelling (p d : Byte) (l : RawLimits) (a m : Byte) :
    setProfilePayload (requestPayload (.setProfile p d l a m)) = some (.setProfile p d l a m) := by
  simp [requestPayload, limitsFields, halfBytes, setProfilePayload]

theorem putEntryPayload_spelling (p t : Byte) (key : RawKey) (cls n : Byte) {as : List RawAction} (x w : Byte)
    (h : actionsFit n as = true) :
    putEntryPayload (requestPayload (.putEntry p t key cls n as x w)) = some (.putEntry p t key cls n as x w) := by
  obtain ⟨hcapacity, hcount⟩ := (actionsFit_iff n as).mp h
  have hlength : (as.flatMap actionBytes ++ [x, w]).length = 3 * as.length + 2 := by
    rw [List.length_append, length_flatMap_actionBytes]
    rfl
  simp only [requestPayload, List.cons_append, List.nil_append, putEntryPayload]
  rw [if_pos ⟨by omega, fun hn => by rw [hlength, hcount hn]⟩, splitActions_flatMap]

theorem degreesPayload_spelling (f : Byte → List Byte → Instr) {n : Byte} {l : List Byte} (h : degreesFit n l = true) :
    degreesPayload f (n :: l) = some (f n l) := if_pos h

theorem probeNowPayload_spelling (t : Byte) {n : Byte} {l : List Byte} (h : degreesFit n l = true) :
    probeNowPayload (n :: t :: l) = some (.probeNow n t l) := if_pos h

/-- The requests without two-byte fields and lists are read back by evaluation. -/
theorem checkRequest_spelling (i : Instr) (k : Byte) (hfit : i.wellFormed = true) (hk : requestKind i = some k) :
    checkRequest k (requestPayload i) = .request i := by
  cases i with
  | setChannel c d g =>
    cases hk
    exact congrArg RequestCheck.ofOption (setChannelPayload_spelling c d g)
  | putEntry p t key cls n as x w =>
    cases hk
    exact congrArg RequestCheck.ofOption (putEntryPayload_spelling p t key cls n x w hfit)
  | setSource j e d f r p =>
    cases hk
    exact congrArg RequestCheck.ofOption (setSourcePayload_spelling j e d f r p)
  | setSpan d c =>
    cases hk
    exact congrArg RequestCheck.ofOption (setSpanPayload_spelling d c)
  | setSite o a b c d =>
    cases hk
    exact congrArg RequestCheck.ofOption (setSitePayload_spelling o a b c d)
  | setProfile p d l a m =>
    cases hk
    exact congrArg RequestCheck.ofOption (setProfilePayload_spelling p d l a m)
  | resume n l =>
    cases hk
    exact congrArg RequestCheck.ofOption (degreesPayload_spelling .resume hfit)
  | unlock n l =>
    cases hk
    exact congrArg RequestCheck.ofOption (degreesPayload_spelling .unlock hfit)
  | claim n l =>
    cases hk
    exact congrArg RequestCheck.ofOption (degreesPayload_spelling .claim hfit)
  | probeNow n t l =>
    cases hk
    exact congrArg RequestCheck.ofOption (probeNowPayload_spelling t hfit)
  | getReading | setContact | getContact | getConditions | parkEntry | unparkEntry | freeEntry | getEntry | testKey
  | holdSource | releaseLatch | getSource | lock | getSpan | getLine | getProfile | selectProfile | getClaim
  | readCapture | releaseCapture | getCapture | readReports | setNotify | identify | resetPart =>
    cases hk
    rfl
  | _ => cases hk

/-! ### Each reader accepts only what spells a request of its kind -/

/-- What O26 says of a kind and a payload that pass the check as `i`. -/
def SpellsRequest (k : Byte) (p : List Byte) (i : Instr) : Prop :=
  requestKind i = some k ∧ i.wellFormed = true ∧
    (p = requestPayload i ∨ ∃ (a t cls n x w : Byte) (key : RawKey) (as : List RawAction) (more : List Byte),
      i = .putEntry a t key cls n as x w ∧ 4 < n.toNat ∧ more.length ≤ 2 ∧ p.length ≤ 21 ∧
      p = requestPayload i ++ more)

theorem SpellsRequest.of_payload {i : Instr} {k : Byte} (hk : requestKind i = some k) (hfit : i.wellFormed = true) :
    SpellsRequest k (requestPayload i) i := ⟨hk, hfit, .inl rfl⟩

section
variable {k : Byte} {p : List Byte} {i j : Instr}

theorem noPayload_spells (h : noPayload j p = some i) (hj : SpellsRequest k [] j) : SpellsRequest k p i := by
  unfold noPayload at h
  split at h
  · cases h
    exact hj
  · cases h

theorem onePayload_spells {f : Byte → Instr} (h : onePayload f p = some i) (hf : ∀ a, SpellsRequest k [a] (f a)) :
    SpellsRequest k p i := by
  unfold onePayload at h
  split at h
  · cases h
    exact hf _
  · cases h

theorem twoPayload_spells {f : Byte → Byte → Instr} (h : twoPayload f p = some i)
    (hf : ∀ a b, SpellsRequest k [a, b] (f a b)) : SpellsRequest k p i := by
  unfold twoPayload at h
  split at h
  · cases h
    exact hf _ _
  · cases h

theorem degreesPayload_spells {f : Byte → List Byte → Instr} (h : degreesPayload f p = some i)
    (hf : ∀ n l, degreesFit n l = true → SpellsRequest k (n :: l) (f n l)) : SpellsRequest k p i := by
  unfold degreesPayload at h
  split at h
  · obtain ⟨hfit, ⟨⟩⟩ := Option.ite_none_right_eq_some.mp h
    exact hf _ _ hfit
  · cases h

theorem probeNowPayload_spells (h : probeNowPayload p = some i) : SpellsRequest 0x16 p i := by
  unfold probeNowPayload at h
  split at h
  · obtain ⟨hfit, ⟨⟩⟩ := Option.ite_none_right_eq_some.mp h
    exact .of_payload rfl hfit
  · cases h

theorem setContactPayload_spells (h : setContactPayload p = some i) : SpellsRequest 0x03 p i := by
  unfold setContactPayload at h
  split at h
  · cases h
    exact .of_payload rfl rfl
  · cases h

theorem testKeyPayload_spells (h : testKeyPayload p = some i) : SpellsRequest 0x0B p i := by
  unfold testKeyPayload at h
  split at h
  · cases h
    exact .of_payload rfl rfl
  · cases h

theorem setChannelPayload_spells (h : setChannelPayload p = some i) : SpellsRequest 0x01 p i := by
  unfold setChannelPayload at h
  split at h
  · cases h
    exact ⟨rfl, rfl, .inl (by simp [requestPayload])⟩
  · cases h

theorem setSourcePayload_spells (h : setSourcePayload p = some i) : SpellsRequest 0x0C p i := by
  unfold setSourcePayload at h
  split at h
  · cases h
    exact ⟨rfl, rfl, .inl (by simp [requestPayload])⟩
  · cases h

theorem setSpanPayload_spells (h : setSpanPayload p = some i) : SpellsRequest 0x10 p i := by
  unfold setSpanPayload at h
  split at h
  · cases h
    exact ⟨rfl, rfl, .inl (by simp [requestPayload])⟩
  · cases h

theorem setSitePayload_spells (h : setSitePayload p = some i) : SpellsRequest 0x17 p i := by
  unfold setSitePayload at h
  split at h
  · cases h
    exact ⟨rfl, rfl, .inl (by simp [requestPayload])⟩
  · cases h

theorem setProfilePayload_spells (h : setProfilePayload p = some i) : SpellsRequest 0x19 p i := by
  unfold setProfilePayload at h
  split at h
  · cases h
    exact ⟨rfl, rfl, .inl (by simp [requestPayload, limitsFields])⟩
  · cases h

/-- With a count of 0 to 4 the length leaves no byte beyond the fields; with one above 4 at most two (R169 step 2). -/
theorem putEntryPayload_spells (h : putEntryPayload p = some i) : SpellsRequest 0x06 p i := by
  unfold putEntryPayload at h
  split at h
  · next a t kind degree detail cls n rest =>
    obtain ⟨⟨hmost, hexact⟩, h⟩ := Option.ite_none_right_eq_some.mp h
    split at h
    · next as x w more hsplit =>
      cases h
      have hmore : more.length ≤ 2 := by
        have := splitActions_rest_length rest
        rw [hsplit] at this
        simp only [List.length_cons] at this
        omega
      have hrest : rest = as.flatMap actionBytes ++ x :: w :: more := by
        have := splitActions_join rest
        rw [hsplit] at this
        exact this.symm
      have hlength : rest.length = 3 * as.length + (more.length + 2) := by
        rw [hrest, List.length_append, length_flatMap_actionBytes]
        rfl
      refine ⟨rfl, (actionsFit_iff n as).mpr ⟨by omega, fun hn => ?_⟩, ?_⟩
      · have := hexact hn
        omega
      · by_cases hn : n.toNat ≤ 4
        · have hnone : more = [] := by
            have := hexact hn
            exact List.length_eq_zero_iff.mp (by omega)
          exact .inl (by simp [requestPayload, hrest, hnone])
        · exact .inr ⟨a, t, cls, n, x, w, _, as, more, rfl, by omega, hmore, by simp; omega,
            by simp [requestPayload, hrest]⟩
    · cases h
  · cases h

/-! ### The two tables of kinds -/

theorem checkLow_spells {n : Nat} (h : checkLow n p = some (some i)) : SpellsRequest (BitVec.ofNat 8 n) p i := by
  unfold checkLow at h
  split at h
  case h_1 => exact setChannelPayload_spells (Option.some.inj h)
  case h_2 => exact twoPayload_spells (Option.some.inj h) fun _ _ => .of_payload rfl rfl
  case h_3 => exact setContactPayload_spells (Option.some.inj h)
  case h_4 => exact noPayload_spells (Option.some.inj h) (.of_payload rfl rfl)
  case h_5 => exact twoPayload_spells (Option.some.inj h) fun _ _ => .of_payload rfl rfl
  case h_6 => exact putEntryPayload_spells (Option.some.inj h)
  case h_7 => exact onePayload_spells (Option.some.inj h) fun _ => .of_payload rfl rfl
  case h_8 => exact onePayload_spells (Option.some.inj h) fun _ => .of_payload rfl rfl
  case h_9 => exact onePayload_spells (Option.some.inj h) fun _ => .of_payload rfl rfl
  case h_10 => exact onePayload_spells (Option.some.inj h) fun _ => .of_payload rfl rfl
  case h_11 => exact testKeyPayload_spells (Option.some.inj h)
  case h_12 => exact setSourcePayload_spells (Option.some.inj h)
  case h_13 => exact twoPayload_spells (Option.some.inj h) fun _ _ => .of_payload rfl rfl
  case h_14 => exact onePayload_spells (Option.some.inj h) fun _ => .of_payload rfl rfl
  case h_15 => exact onePayload_spells (Option.some.inj h) fun _ => .of_payload rfl rfl
  case h_16 => exact setSpanPayload_spells (Option.some.inj h)
  case h_17 => exact onePayload_spells (Option.some.inj h) fun _ => .of_payload rfl rfl
  case h_18 => cases h

theorem checkHigh_spells {n : Nat} (h : checkHigh n p = some (some i)) : SpellsRequest (BitVec.ofNat 8 n) p i := by
  unfold checkHigh at h
  split at h
  case h_1 => exact degreesPayload_spells (Option.some.inj h) fun _ _ hfit => .of_payload rfl hfit
  case h_2 => exact degreesPayload_spells (Option.some.inj h) fun _ _ hfit => .of_payload rfl hfit
  case h_3 => exact onePayload_spells (Option.some.inj h) fun _ => .of_payload rfl rfl
  case h_4 => exact probeNowPayload_spells (Option.some.inj h)
  case h_5 => exact setSitePayload_spells (Option.some.inj h)
  case h_6 => exact onePayload_spells (Option.some.inj h) fun _ => .of_payload rfl rfl
  case h_7 => exact setProfilePayload_spells (Option.some.inj h)
  case h_8 => exact twoPayload_spells (Option.some.inj h) fun _ _ => .of_payload rfl rfl
  case h_9 => exact onePayload_spells (Option.some.inj h) fun _ => .of_payload rfl rfl
  case h_10 => exact degreesPayload_spells (Option.some.inj h) fun _ _ hfit => .of_payload rfl hfit
  case h_11 => exact noPayload_spells (Option.some.inj h) (.of_payload rfl rfl)
  case h_12 => exact twoPayload_spells (Option.some.inj h) fun _ _ => .of_payload rfl rfl
  case h_13 => exact onePayload_spells (Option.some.inj h) fun _ => .of_payload rfl rfl
  case h_14 => exact noPayload_spells (Option.some.inj h) (.of_payload rfl rfl)
  case h_15 => exact noPayload_spells (Option.some.inj h) (.of_payload rfl rfl)
  case h_16 => exact onePayload_spells (Option.some.inj h) fun _ => .of_payload rfl rfl
  case h_17 => exact noPayload_spells (Option.some.inj h) (.of_payload rfl rfl)
  case h_18 => exact noPayload_spells (Option.some.inj h) (.of_payload rfl rfl)
  case h_19 => cases h

theorem RequestCheck.ofOption_eq_request {o : Option Instr} (h : RequestCheck.ofOption o = .request i) : o = some i := by
  cases o with
  | none => cases h
  | some j =>
    cases h
    rfl

theorem checkRequest_spells (h : checkRequest k p = .request i) : SpellsRequest k p i := by
  have hk : BitVec.ofNat 8 k.toNat = k := (BitVec.ofNat_toNat 8 k).trans (BitVec.setWidth_eq k)
  unfold checkRequest at h
  split at h
  · next o hlow =>
    cases RequestCheck.ofOption_eq_request h
    exact hk ▸ checkLow_spells hlow
  · split at h
    · next o hhigh =>
      cases RequestCheck.ofOption_eq_request h
      exact hk ▸ checkHigh_spells hhigh
    · cases h

end

/-- Settles O26: what spells a request is read back (`checkRequest_spelling`), and what passes the check spells one
(`checkRequest_spells`). -/
theorem requestPayloadsAreReadBack : Obligations.RequestPayloadsAreReadBack :=
  ⟨checkRequest_spelling, fun _ _ _ => checkRequest_spells⟩

end Sys2Proof.Machine
end

section
/-! SUPPORT, O31 and O32. The effective values (R61), the span ceiling by the state of the span (R71), and the grant as the
lowest of its terms (R73, R75). -/

namespace Sys2Proof.Machine

variable (spans : Vector Span 4) (x : Source)

/-! ### Effective values (R61) -/

theorem effProbe_exposed {d : Degree} (h : x.exposure = .out d ∨ x.exposure = .inn d) :
    effProbe spans x = min (min x.probe x.full) (look spans d).config.hazardLimit := by
  unfold effProbe
  rcases h with h | h <;> rw [h]

theorem effProbe_unexposed (h : x.exposure = .enclosed ∨ x.exposure = .unused) :
    effProbe spans x = min x.probe x.full := by
  unfold effProbe
  rcases h with h | h <;> rw [h]

theorem effProbe_le : effProbe spans x ≤ x.full ∧ effProbe spans x ≤ x.probe := by
  unfold effProbe
  split <;> omega

/-! ### The span ceiling (R71) -/

theorem spanCeiling_lit {d : Degree} (h : x.exposure = .out d ∨ x.exposure = .inn d)
    (hl : (look spans d).state = .lit) : spanCeiling spans x = .unbounded := by
  unfold spanCeiling
  rcases h with h | h <;> simp only [h, hl]

theorem spanCeiling_ramp {d : Degree} (h : x.exposure = .out d ∨ x.exposure = .inn d)
    (hr : (look spans d).state = .ramp) :
    spanCeiling spans x = .value (max (effProbe spans x) (x.full - (look spans d).remaining)) := by
  unfold spanCeiling
  rcases h with h | h <;> simp only [h, hr, rampValue]

theorem spanCeiling_dark {d : Degree} (h : x.exposure = .out d ∨ x.exposure = .inn d)
    (hd : (look spans d).state = .await ∨ (look spans d).state = .dark ∨ (look spans d).state = .held ∨
      (look spans d).state = .locked) : spanCeiling spans x = .off := by
  unfold spanCeiling
  rcases h with h | h <;> rcases hd with hd | hd | hd | hd <;> simp only [h, hd]

theorem spanCeiling_probe_out {d : Degree} (h : x.exposure = .out d) (hp : (look spans d).state = .probe) :
    spanCeiling spans x = .value (effProbe spans x) := by
  simp only [spanCeiling, h, hp]

theorem spanCeiling_probe_inn {d : Degree} (h : x.exposure = .inn d) (hp : (look spans d).state = .probe) :
    spanCeiling spans x = .off := by
  simp only [spanCeiling, h, hp]

theorem spanCeiling_enclosed (h : x.exposure = .enclosed) : spanCeiling spans x = .unbounded := by
  simp only [spanCeiling, h]

theorem spanCeiling_value {v : Int} (h : spanCeiling spans x = .value v) : effProbe spans x ≤ v ∧ v ≤ x.full := by
  have hle := (effProbe_le spans x).1
  unfold spanCeiling rampValue at h
  split at h
  · split at h <;> cases h <;> omega
  · split at h <;> cases h
    omega
  all_goals cases h

/-! ### The off reasons (R73) -/

/-- What turns a source OFF: one of R73's five reasons, or a floor order of MASTER_SHUT that is lost (R75). -/
def Source.IsOff (spans : Vector Span 4) (x : Source) : Prop :=
  x.exposure = .unused ∨ x.overflow = true ∨ x.hold = .off ∨ spanCeiling spans x = .off ∨
    (∃ r ∈ x.restrictions, r.ceiling = .off) ∨ x.lostShut = true

theorem offReasons_eq_zero_iff : offReasons spans x = 0 ↔
    ¬(x.exposure = .unused ∨ x.overflow = true ∨ x.hold = .off ∨ spanCeiling spans x = .off ∨
      ∃ r ∈ x.restrictions, r.ceiling = .off) := by
  have hbits : ∀ a b c d e : Bool,
      BitVec.ofBool a ++ BitVec.ofBool b ++ BitVec.ofBool c ++ BitVec.ofBool d ++ BitVec.ofBool e = 0#5 ↔
        ¬(e = true ∨ d = true ∨ c = true ∨ b = true ∨ a = true) := by decide
  refine (hbits ..).trans ?_
  simp

theorem grantOf_eq_none_iff : grantOf spans x = none ↔ x.IsOff spans := by
  have hsix : x.IsOff spans ↔ ¬(offReasons spans x = 0 ∧ x.lostShut = false) := by
    rw [offReasons_eq_zero_iff, not_and_or, not_not, Bool.not_eq_false, Source.IsOff]
    simp only [or_assoc]
  rw [hsix, grantOf]
  split
  · next hon => exact iff_of_false (Option.some_ne_none _) (not_not_intro hon)
  · next hoff => exact iff_of_true rfl hoff

/-! ### The lowest term (R73) -/

theorem mem_grantTerms (w : Int) : w ∈ grantTerms spans x ↔
    spanCeiling spans x = .value w ∨ (x.hold = .reduced ∧ w = x.effReduced) ∨
      (x.hold = .probe ∧ w = effProbe spans x) ∨ ∃ r ∈ x.restrictions, w = ceilingBound spans x r.ceiling := by
  have hceiling : (w ∈ match spanCeiling spans x with | .value v => [v] | .unbounded | .off => []) ↔
      spanCeiling spans x = .value w := by
    cases spanCeiling spans x <;> simp [eq_comm]
  have hhold : (w ∈ match x.hold with
      | .reduced => [x.effReduced] | .probe => [effProbe spans x] | .none | .off => []) ↔
      (x.hold = .reduced ∧ w = x.effReduced) ∨ (x.hold = .probe ∧ w = effProbe spans x) := by
    cases x.hold <;> simp
  unfold grantTerms
  rw [List.mem_append, List.mem_append]
  refine (or_congr (or_congr hceiling hhold) List.mem_map).trans ?_
  simp only [or_assoc, eq_comm]

/-- A source that is granted is not OFF, and its grant is the lowest of the full setpoint and the other terms. -/
theorem grantOf_eq_some {spans : Vector Span 4} {x : Source} {v : Int} (h : grantOf spans x = some v) :
    ¬x.IsOff spans ∧ v ∈ x.full :: grantTerms spans x ∧ ∀ w ∈ x.full :: grantTerms spans x, v ≤ w := by
  refine ⟨fun hoff => ?_, ?_⟩
  · rw [(grantOf_eq_none_iff spans x).mpr hoff] at h
    cases h
  · unfold grantOf at h
    split at h
    · exact List.min?_eq_some_iff.mp (List.min?_cons'.trans h)
    · cases h

theorem le_of_grantOf {spans : Vector Span 4} {x : Source} {v w : Int} (h : grantOf spans x = some v)
    (hw : w ∈ grantTerms spans x) : v ≤ w :=
  (grantOf_eq_some h).2.2 w (List.mem_cons_of_mem _ hw)

/-- No grant exceeds the effective reduced value under a hold of REDUCED, nor the effective probe value under one of
PROBE (R64). -/
theorem le_hold_of_grantOf {spans : Vector Span 4} {x : Source} {v : Int} (h : grantOf spans x = some v) :
    (x.hold = .reduced → v ≤ x.effReduced) ∧ (x.hold = .probe → v ≤ effProbe spans x) :=
  ⟨fun hr => le_of_grantOf h ((mem_grantTerms ..).mpr (.inr (.inl ⟨hr, rfl⟩))),
    fun hp => le_of_grantOf h ((mem_grantTerms ..).mpr (.inr (.inr (.inl ⟨hp, rfl⟩))))⟩

theorem le_restriction_of_grantOf {spans : Vector Span 4} {x : Source} {v : Int} (h : grantOf spans x = some v)
    {r : Restriction} (hr : r ∈ x.restrictions) : v ≤ ceilingBound spans x r.ceiling :=
  le_of_grantOf h ((mem_grantTerms ..).mpr (.inr (.inr (.inr ⟨r, hr, rfl⟩))))

/-- With its setpoints in the range of R59 and the hazard limits at least −1000 every term of a source is in that
range. -/
theorem grantTerms_within (hf : Within (-1000) 3000 x.full) (hr : Within (-1000) 3000 x.reduced)
    (hp : Within (-1000) 3000 x.probe) (hh : ∀ d, -1000 ≤ (look spans d).config.hazardLimit) {w : Int}
    (hw : w ∈ x.full :: grantTerms spans x) : Within (-1000) 3000 w := by
  unfold Within at *
  have hreduced : -1000 ≤ x.effReduced ∧ x.effReduced ≤ 3000 := by
    unfold Source.effReduced
    omega
  have hprobe : -1000 ≤ effProbe spans x ∧ effProbe spans x ≤ 3000 := by
    refine ⟨?_, (effProbe_le spans x).1.trans hf.2⟩
    unfold effProbe
    split
    · next d _ => have := hh d; omega
    · next d _ => have := hh d; omega
    all_goals omega
  rcases List.mem_cons.mp hw with rfl | hw
  · exact hf
  · rcases (mem_grantTerms ..).mp hw with hw | ⟨-, rfl⟩ | ⟨-, rfl⟩ | ⟨r, -, rfl⟩
    · have hbounds := spanCeiling_value spans x hw
      omega
    · exact hreduced
    · exact hprobe
    · cases r.ceiling
      · exact hf
      · exact hprobe
      · exact hreduced

/-- Settles O31, by the exposure and the state of its span. -/
theorem effectiveValuesAndSpanCeilings : Obligations.EffectiveValuesAndSpanCeilings := by
  intro spans x d
  have hoff : spanCeiling spans x = .off → spanCeiling spans x = .off ∧ grantOf spans x = none := fun h =>
    ⟨h, (grantOf_eq_none_iff spans x).mpr (.inr (.inr (.inr (.inl h))))⟩
  have hle := effProbe_le spans x
  refine ⟨rfl, hle.1, hle.2, effProbe_unexposed spans x, effProbe_exposed spans x, spanCeiling_enclosed spans x,
    fun he => ⟨spanCeiling_lit spans x he, fun hr => ⟨_, spanCeiling_ramp spans x he hr, rfl, by omega, by omega⟩,
      fun hd => hoff (spanCeiling_dark spans x he hd)⟩,
    fun he hp => ?_, fun he hp => hoff (spanCeiling_probe_inn spans x he hp)⟩
  have hceiling := spanCeiling_probe_out spans x he hp
  exact ⟨hceiling, fun v hv => le_of_grantOf hv ((mem_grantTerms ..).mpr (.inl hceiling))⟩

/-- Settles O32: what turns a source OFF (`grantOf_eq_none_iff`), and otherwise the lowest term (`grantOf_eq_some`). -/
theorem theGrantIsTheLowestTerm : Obligations.TheGrantIsTheLowestTerm := by
  intro spans x
  refine ⟨grantOf_eq_none_iff spans x, fun v hv => ?_⟩
  obtain ⟨hon, hmem, hle⟩ := grantOf_eq_some hv
  obtain ⟨hreduced, hprobe⟩ := le_hold_of_grantOf hv
  refine ⟨hle _ List.mem_cons_self, fun c hc => le_of_grantOf hv ((mem_grantTerms ..).mpr (.inl hc)), hreduced, hprobe,
    fun r hr => ?_, ?_, fun hf hr hp hh => grantTerms_within spans x hf hr hp hh hmem⟩
  · have hbound := le_restriction_of_grantOf hv hr
    exact ⟨fun hc => by rwa [hc] at hbound, fun hc => by rwa [hc] at hbound⟩
  · rcases List.mem_cons.mp hmem with hfull | hterm
    · exact .inl hfull
    · rcases (mem_grantTerms ..).mp hterm with hterm | hterm | hterm | ⟨r, hr, hterm⟩
      · exact .inr (.inl hterm)
      · exact .inr (.inr (.inl hterm))
      · exact .inr (.inr (.inr (.inl hterm)))
      · refine .inr (.inr (.inr (.inr ⟨r, hr, ?_⟩)))
        cases hc : r.ceiling with
        | off => exact absurd (.inr (.inr (.inr (.inr (.inl ⟨r, hr, hc⟩))))) hon
        | probe => exact .inr ⟨rfl, by rwa [hc] at hterm⟩
        | reduced => exact .inl ⟨rfl, by rwa [hc] at hterm⟩

end Sys2Proof.Machine
end

section
/-! SUPPORT. Which steps keep every drive port at the grant that its record and the spans give (R72 to R76): the writes of
one span and of one source, with the recomputations that follow them, and every operation of the span controller and of
the grant unit. -/

namespace Sys2Proof.Machine

/-! ### What a grant is computed from -/

/-- What a grant reads of the span of its source's exposure degree (R61, R71). -/
def Span.light (r : Span) : SpanState × Nat × Int := (r.state, r.remaining, r.config.hazardLimit)

/-- A grant reads no span but that of the exposure degree, and of that only its `light`. -/
theorem grantOf_congr_spans {u v : Vector Span 4} (x : Source)
    (h : ∀ d, x.exposure.degree = some d → (look u d).light = (look v d).light) : grantOf u x = grantOf v x := by
  have hfields : ∀ d, x.exposure.degree = some d → (look u d).state = (look v d).state ∧
      (look u d).remaining = (look v d).remaining ∧ (look u d).config.hazardLimit = (look v d).config.hazardLimit := by
    intro d hd
    simpa [Span.light] using h d hd
  have hprobe : effProbe u x = effProbe v x := by
    unfold effProbe
    split
    · next d he => rw [(hfields d (by rw [he]; rfl)).2.2]
    · next d he => rw [(hfields d (by rw [he]; rfl)).2.2]
    all_goals rfl
  have hceiling : spanCeiling u x = spanCeiling v x := by
    unfold spanCeiling rampValue
    rw [hprobe]
    split
    · next d he =>
      obtain ⟨hs, hr, -⟩ := hfields d (by rw [he]; rfl)
      rw [hs, hr]
    · next d he =>
      obtain ⟨hs, hr, -⟩ := hfields d (by rw [he]; rfl)
      rw [hs, hr]
    all_goals rfl
  have hbound : ceilingBound u x = ceilingBound v x := by
    funext c
    cases c <;> simp [ceilingBound, hprobe]
  have hterms : grantTerms u x = grantTerms v x := by
    simp only [grantTerms, hceiling, hprobe, hbound]
  have hreasons : offReasons u x = offReasons v x := by
    simp only [offReasons, hceiling]
  simp only [grantOf, hterms, hreasons]

/-! ### The two parts of a safe port -/

/-- Every grant is the one that its source's record and the spans give now (R74). -/
def State.GrantsSafe (s : State) : Prop := ∀ i, (s.source i).grant = grantOf s.ctrl.spans (s.source i)

/-- The enable line and the setpoint output of a source show its grant (R76). -/
def Source.OutputSafe (x : Source) : Prop := x.enable = x.grant.isSome ∧ x.setpoint = setpointOf x.grant

/-- Every output shows its grant. -/
def State.OutputsSafe (s : State) : Prop := ∀ i, (s.source i).OutputSafe

theorem State.portsSafe_iff (s : State) : s.PortsSafe ↔ s.GrantsSafe ∧ s.OutputsSafe :=
  ⟨fun h => ⟨fun i => (h i).grant, fun i => ⟨(h i).enable, (h i).setpoint⟩⟩,
    fun h i => ⟨h.1 i, (h.2 i).1, (h.2 i).2⟩⟩

/-- What a recomputation writes of a source (R76). -/
def Source.port (x : Source) : Option Int × Bool × Int := (x.grant, x.enable, x.setpoint)

theorem Source.OutputSafe.of_port {x y : Source} (h : x.OutputSafe) (e : y.port = x.port) : y.OutputSafe := by
  obtain ⟨hg, he, hs⟩ : y.grant = x.grant ∧ y.enable = x.enable ∧ y.setpoint = x.setpoint := by
    simpa [Source.port] using e
  exact ⟨by rw [he, hg, h.1], by rw [hs, hg, h.2]⟩

theorem Source.OutputSafe.regranted {x : Source} (h : x.OutputSafe) (spans : Vector Span 4) :
    (x.regranted spans).OutputSafe := by
  have hport := Source.regranted_safe (spans := spans) h.1 h.2
  exact ⟨hport.enable, hport.setpoint⟩

/-! ### Steps that keep the ports -/

/-- From `s` to `t` the grants stay those that the records and the spans give, and the outputs stay at the grants. -/
structure KeepsPorts (s t : State) : Prop where
  grants : s.GrantsSafe → t.GrantsSafe
  outputs : s.OutputsSafe → t.OutputsSafe

theorem KeepsPorts.portsSafe {s t : State} (h : KeepsPorts s t) (hs : s.PortsSafe) : t.PortsSafe := by
  rw [State.portsSafe_iff] at hs ⊢
  exact ⟨h.grants hs.1, h.outputs hs.2⟩

theorem KeepsPorts.refl (s : State) : KeepsPorts s s := ⟨id, id⟩

theorem KeepsPorts.trans {s t u : State} (h : KeepsPorts s t) (k : KeepsPorts t u) : KeepsPorts s u :=
  ⟨k.grants ∘ h.grants, k.outputs ∘ h.outputs⟩

theorem KeepsPorts.foldl {α : Type} {f : State → α → State} (h : ∀ s x, KeepsPorts s (f s x)) (l : List α) (s : State) :
    KeepsPorts s (l.foldl f s) := by
  induction l generalizing s with
  | nil => exact .refl s
  | cons x l ih => exact (h s x).trans (ih (f s x))

/-- A step keeps the ports where it regrants every source it changes, by the spans as it leaves them, and leaves a source
alone only if the spans still give it the grant they gave. -/
theorem KeepsPorts.of_sources {s t : State} (h : ∀ i,
    (∃ x : Source, t.source i = x.regranted t.ctrl.spans ∧ x.port = (s.source i).port) ∨
      (t.source i = s.source i ∧ grantOf t.ctrl.spans (s.source i) = grantOf s.ctrl.spans (s.source i))) :
    KeepsPorts s t := by
  constructor
  · intro hs i
    rcases h i with ⟨x, hx, -⟩ | ⟨hx, hg⟩
    · rw [hx, grantOf_regranted, Source.regranted_grant]
    · rw [hx, hg]
      exact hs i
  · intro hs i
    rcases h i with ⟨x, hx, hp⟩ | ⟨hx, -⟩
    · rw [hx]
      exact ((hs i).of_port hp).regranted _
    · rw [hx]
      exact hs i

/-- `t` has the grant unit and the span controller of `s`. -/
def LightStands (s t : State) : Prop := t.grant = s.grant ∧ t.ctrl = s.ctrl

theorem LightStands.refl (s : State) : LightStands s s := ⟨rfl, rfl⟩

theorem LightStands.trans {s t u : State} (h : LightStands s t) (k : LightStands t u) : LightStands s u :=
  ⟨k.1.trans h.1, k.2.trans h.2⟩

theorem LightStands.foldl {α : Type} {f : State → α → State} (h : ∀ s x, LightStands s (f s x)) (l : List α)
    (s : State) : LightStands s (l.foldl f s) := by
  induction l generalizing s with
  | nil => exact .refl s
  | cons x l ih => exact (h s x).trans (ih (f s x))

theorem LightStands.keepsPorts {s t : State} (h : LightStands s t) : KeepsPorts s t := by
  refine .of_sources fun i => .inr ⟨?_, by rw [h.2]⟩
  unfold State.source
  rw [h.1]

theorem TransitSide.light {s t : State} (h : TransitSide s t) : LightStands s t := ⟨h.grant, h.ctrl⟩

theorem ClaimSide.light {s t : State} (h : ClaimSide s t) : LightStands s t := ⟨h.grant, h.ctrl⟩

theorem ReplySide.light {s t : State} (h : ReplySide s t) : LightStands s t := ⟨h.grant, h.ctrl⟩

theorem CondSide.light {s t : State} (h : CondSide s t) : LightStands s t := ⟨h.grant, h.ctrl⟩

theorem LineSide.light {s t : State} (h : LineSide s t) : LightStands s t := ⟨h.grant, h.ctrl⟩

/-- A write of a span record that leaves what the grants read. -/
theorem State.setSpan_keepsPorts (s : State) (d : Degree) {r : Span} (h : r.light = (s.span d).light) :
    KeepsPorts s (s.setSpan d r) := by
  refine .of_sources fun i => .inr ⟨rfl, grantOf_congr_spans _ fun e _ => ?_⟩
  rw [State.setSpan_ctrl, look_put]
  split
  · next hd => rw [h, ← hd]; rfl
  · rfl

/-- A change of span `d` with the recomputation of the sources exposed on it (R72). -/
theorem KeepsPorts.recomputeExposed {s u : State} {d : Degree} {r : Span} (hg : u.grant = s.grant)
    (hd : u.ctrl = (s.setSpan d r).ctrl) (a : Bool) : KeepsPorts s (u.recomputeAll a (u.exposedOn d)) := by
  have hsource : ∀ i, u.source i = s.source i := fun i => by
    unfold State.source
    rw [hg]
  have hctrl : (u.recomputeAll a (u.exposedOn d)).ctrl = u.ctrl := (State.recomputeAll_side ..).ctrl
  obtain ⟨hall, -⟩ := State.recomputeAll_spec a u (u.exposedOn d) (u.exposedOn_nodup d)
  refine .of_sources fun i => ?_
  rw [hall, hctrl, hsource]
  split
  · exact .inl ⟨_, rfl, rfl⟩
  · next hi =>
    rw [State.mem_exposedOn, hsource] at hi
    refine .inr ⟨rfl, grantOf_congr_spans _ fun e he => ?_⟩
    rw [hd, State.setSpan_ctrl, look_put_ne _ _ fun h : d = e => hi (h ▸ he)]

theorem State.setSpan_recompute_keepsPorts (s : State) (d : Degree) (r : Span) (a : Bool) :
    KeepsPorts s ((s.setSpan d r).recomputeAll a ((s.setSpan d r).exposedOn d)) :=
  KeepsPorts.recomputeExposed (s := s) (u := s.setSpan d r) (r := r) rfl rfl a

/-- A change of one source that leaves its port, with the recomputation of its grant (R74). -/
theorem State.setSource_keepsPorts (s : State) (i : SourceNo) {x : Source} (h : x.port = (s.source i).port)
    (a : Bool) : KeepsPorts s ((s.setSource i x).recompute a i) := by
  have hctrl : ((s.setSource i x).recompute a i).ctrl = s.ctrl := (State.recompute_side ..).ctrl
  refine .of_sources fun j => ?_
  rw [State.recompute_source, hctrl]
  split
  · next hj =>
    subst hj
    exact .inl ⟨x, by rw [State.source_setSource_same]; rfl, h⟩
  · next hj => exact .inr ⟨by rw [State.source_setSource, if_neg hj], rfl⟩

theorem State.updateSource_keepsPorts {f : Source → Source} (hf : ∀ x, (f x).port = x.port) (s : State)
    (i : SourceNo) : KeepsPorts s (State.updateSource f s i) :=
  State.setSource_keepsPorts s i (hf _) false

/-! ### Changes of a collection leave the port -/

theorem Source.port_takeOrder (c : Ceiling) (p : Persistence) (o : Origin) (x : Source) :
    (x.takeOrder c p o).port = x.port := by
  obtain ⟨hg, he, hs⟩ := Source.takeOrder_port x c p o
  rw [Source.port, hg, he, hs, Source.port]

theorem Source.port_takeClear (k : Key) (x : Source) : (x.takeClear k).port = x.port := by
  obtain ⟨hg, he, hs⟩ := Source.takeClear_port x k
  rw [Source.port, hg, he, hs, Source.port]

theorem Source.port_takeRemoval (o : Origin) (x : Source) : (x.takeRemoval o).port = x.port := by
  obtain ⟨hg, he, hs⟩ := Source.takeRemoval_port x o
  rw [Source.port, hg, he, hs, Source.port]

theorem Source.port_takeRelease (x : Source) : x.takeRelease.port = x.port := rfl

/-- What SET_SOURCE applies to a source of the floor of one raised key (R63). -/
def Source.takeFloor (x : Source) (k : Key) : Source :=
  match floorReaches k x.exposure with
  | some c => x.takeOrder c .follow { key := k, entry := none }
  | none => x

theorem State.applyFloors_eq (s : State) (x : Source) :
    s.applyFloors x = (s.cond.active.map CondRecord.key).foldl Source.takeFloor x := by
  rw [List.foldl_map]
  rfl

theorem Source.port_takeFloor (x : Source) (k : Key) : (x.takeFloor k).port = x.port := by
  unfold Source.takeFloor
  split
  · exact Source.port_takeOrder ..
  · rfl

theorem State.port_applyFloors (s : State) (x : Source) : (s.applyFloors x).port = x.port := by
  rw [State.applyFloors_eq]
  generalize s.cond.active.map CondRecord.key = l
  induction l generalizing x with
  | nil => rfl
  | cons k l ih => exact (ih _).trans (Source.port_takeFloor x k)

/-! ### Requests at the grant unit -/

variable (s : State)

theorem State.takeSetSource_keepsPorts (i e d : Byte) (f r p : Half) :
    KeepsPorts s (s.takeSetSource i e d f r p).1 := by
  unfold State.takeSetSource
  split
  · refine State.setSource_keepsPorts s _ ?_ false
    split
    · rfl
    · exact State.port_applyFloors ..
  · exact .refl s

theorem State.takeHoldSource_keepsPorts (i h : Byte) : KeepsPorts s (s.takeHoldSource i h).1 := by
  unfold State.takeHoldSource
  split
  · next n g _ _ => exact State.updateSource_keepsPorts (f := fun x => { x with hold := g }) (fun _ => rfl) s n
  · exact .refl s

theorem State.commit_keepsPorts (m : DegSet) (p : Degree → Reason) {f : State → Degree → State}
    (hf : ∀ s d, KeepsPorts s (f s d)) (ok : Byte) : KeepsPorts s (s.commit m p f ok).1 := by
  have hend := (State.endClaim_side s .consumed).light.keepsPorts
  unfold State.commit
  dsimp only
  split
  · exact hend
  · split
    · exact hend.trans (KeepsPorts.foldl hf _ _)
    · exact hend

theorem State.spanCommit_keepsPorts (n : Byte) (l : List Byte) (p : Degree → Reason) {f : State → Degree → State}
    (hf : ∀ s d, KeepsPorts s (f s d)) (ok : Byte) : KeepsPorts s (s.spanCommit n l p f ok).1 := by
  unfold State.spanCommit
  split
  · exact .refl s
  · exact State.commit_keepsPorts s _ p hf ok

theorem State.takeReleaseLatch_keepsPorts (i : Byte) : KeepsPorts s (s.takeReleaseLatch i).1 := by
  unfold State.takeReleaseLatch
  split
  · exact .refl s
  · split
    · exact State.commit_keepsPorts s _ _ (fun t _ => State.updateSource_keepsPorts Source.port_takeRelease t _) _
    · exact State.updateSource_keepsPorts Source.port_takeRelease s _

/-! ### The span controller -/

/-- A state change recomputes the grants of the degree's sources, whatever else it writes of the span (R72, R83). -/
theorem State.moveSpan_keepsPorts (d : Degree) (n : SpanState) (c : SpanCause) (f : Span → Span) (k : Option Key) :
    KeepsPorts s (s.moveSpan d n c f k) := by
  have hhanded : ∀ u : State, LightStands u
      (((u.handForcedIf d n.handsForced).handCutTrigger d (s.span d).state n k).handNotice (.spanChange d)) := fun u =>
    ((u.handForcedIf_side d _).trans (State.handCutTrigger_side _ d (s.span d).state n k)).light
  unfold State.moveSpan
  dsimp only
  refine KeepsPorts.trans ?_ (hhanded _).keepsPorts
  exact KeepsPorts.recomputeExposed (r := f ((s.span d).enter n c)) (by rfl) (by rfl) true

theorem State.enterDark_keepsPorts (d : Degree) (c : SpanCause) (f : Span → Span) (k : Option Key) :
    KeepsPorts s (s.enterDark d c f k) := State.moveSpan_keepsPorts s ..

theorem State.enterProbe_keepsPorts (d : Degree) (c : SpanCause) (f : Span → Span) :
    KeepsPorts s (s.enterProbe d c f) := State.moveSpan_keepsPorts s ..

theorem State.settleInAwait_keepsPorts (d : Degree) : KeepsPorts s (s.settleInAwait d) := by
  unfold State.settleInAwait
  split
  · exact State.enterDark_keepsPorts s ..
  · split
    · exact State.setSpan_keepsPorts s d rfl
    · exact .refl s

theorem State.enterAwait_keepsPorts (d : Degree) (c : SpanCause) (f : Span → Span) :
    KeepsPorts s (s.enterAwait d c f) := by
  unfold State.enterAwait
  split
  · exact State.moveSpan_keepsPorts s ..
  · exact (State.moveSpan_keepsPorts s ..).trans (State.settleInAwait_keepsPorts _ d)

theorem Span.see_light (r : Span) (d : Degree) (k : Key) (b : Bool) : (r.see d k b).light = r.light := by
  unfold Span.see
  split_ifs <;> rfl

theorem State.takeCut_keepsPorts (d : Degree) (k : Key) : KeepsPorts s (s.takeCut d k) := by
  unfold State.takeCut
  refine (State.setSpan_keepsPorts s d (Span.see_light _ d k true)).trans ?_
  dsimp only
  split
  · exact State.enterDark_keepsPorts ..
  · split
    · exact State.moveSpan_keepsPorts ..
    · exact State.enterDark_keepsPorts ..
  · split
    · exact State.moveSpan_keepsPorts ..
    · exact State.enterDark_keepsPorts ..
  all_goals exact .refl _

theorem State.takeLock_keepsPorts (d : Degree) (c : LockCause) : KeepsPorts s (s.takeLock d c) := by
  unfold State.takeLock
  split
  · split
    · exact State.setSpan_keepsPorts s d rfl
    · exact .refl s
  · exact State.moveSpan_keepsPorts s ..

theorem State.reexamine_keepsPorts (s : State) (d : Degree) : KeepsPorts s (s.reexamine d) := by
  unfold State.reexamine
  dsimp only
  split
  · exact State.setSpan_keepsPorts s d rfl
  · exact State.setSpan_keepsPorts s d rfl
  · exact State.enterDark_keepsPorts s ..
  · exact State.setSpan_keepsPorts s d rfl

theorem State.testConfirmation_keepsPorts (d : Degree) (far : Option FarWord) :
    KeepsPorts s (s.testConfirmation d far) := by
  unfold State.testConfirmation
  split
  · split <;> exact State.moveSpan_keepsPorts s ..
  · exact .refl s

theorem State.setRole_keepsPorts (d : Degree) (far : Option FarWord) : KeepsPorts s (s.setRole d far) := by
  unfold State.setRole
  refine (State.setSpan_keepsPorts s d (r := { s.span d with role := roleAgainst s.words.own far }) rfl).trans ?_
  dsimp only
  split
  · exact State.moveSpan_keepsPorts ..
  · exact .refl _

theorem State.takeSpanClear_keepsPorts (k : Key) (w : DegSet) : KeepsPorts s (s.takeSpanClear k w) := by
  unfold State.takeSpanClear
  have hseen : KeepsPorts s (match k.degree with
      | some d => s.setSpan d ((s.span d).see d k false)
      | none => s) := by
    split
    · exact State.setSpan_keepsPorts s _ (Span.see_light ..)
    · exact .refl s
  have hexamined := hseen.trans (KeepsPorts.foldl State.reexamine_keepsPorts (DegSet.toList w) _)
  dsimp only
  split
  · exact hexamined.trans (State.testConfirmation_keepsPorts _ _ _)
  · exact hexamined

theorem State.withdrawOn_keepsPorts (d : Degree) (w : FarWord) : KeepsPorts s (s.withdrawOn d w) := by
  unfold State.withdrawOn
  split
  · exact State.setSpan_keepsPorts s d rfl
  · exact .refl s

theorem State.replyProbe_keepsPorts (d : Degree) (w : FarWord) : KeepsPorts s (s.replyProbe d w) := by
  unfold State.replyProbe
  split
  · exact State.enterProbe_keepsPorts s ..
  · exact .refl s

theorem State.farRequest_keepsPorts (d : Degree) (w : FarWord) : KeepsPorts s (s.farRequest d w) := by
  unfold State.farRequest
  split
  · exact State.enterProbe_keepsPorts s ..
  · exact .refl s

theorem State.takeFarWord_keepsPorts (d : Degree) (w : FarWord) : KeepsPorts s (s.takeFarWord d w) :=
  ((((State.setRole_keepsPorts s d _).trans (State.withdrawOn_keepsPorts _ d w)).trans
    (State.replyProbe_keepsPorts _ d w)).trans (State.farRequest_keepsPorts _ d w)).trans
      (State.testConfirmation_keepsPorts _ d _)

theorem State.takeOrdinalChange_keepsPorts (d : Degree) (b : Bool) : KeepsPorts s (s.takeOrdinalChange d b) := by
  unfold State.takeOrdinalChange
  refine KeepsPorts.trans ?_ (State.setRole_keepsPorts _ d _)
  split
  · exact State.reexamine_keepsPorts s d
  · exact .refl s

theorem State.stepRamp_keepsPorts (d : Degree) : KeepsPorts s (s.stepRamp d) := by
  unfold State.stepRamp
  dsimp only
  split
  · exact State.moveSpan_keepsPorts s ..
  · exact State.setSpan_recompute_keepsPorts s d _ false

theorem State.failProbe_keepsPorts (d : Degree) : KeepsPorts s (s.failProbe d) := by
  unfold State.failProbe
  dsimp only
  split
  · exact State.moveSpan_keepsPorts s ..
  · exact State.enterAwait_keepsPorts s ..

theorem State.intervalInAwait_keepsPorts (d : Degree) : KeepsPorts s (s.intervalInAwait d) := by
  unfold State.intervalInAwait
  dsimp only
  split
  · split
    · exact State.enterProbe_keepsPorts s ..
    all_goals exact State.setSpan_keepsPorts s d rfl
  · exact State.setSpan_keepsPorts s d rfl

theorem State.takeSetSpan_keepsPorts (d : Byte) (c : RawSpanConfig) : KeepsPorts s (s.takeSetSpan d c).1 := by
  unfold State.takeSetSpan
  split
  · exact .refl s
  · exact State.setSpan_recompute_keepsPorts s _ _ false

theorem State.takeLockRequest_keepsPorts (d : Byte) : KeepsPorts s (s.takeLockRequest d).1 := by
  unfold State.takeLockRequest
  split
  · exact .refl s
  · exact State.takeLock_keepsPorts s _ _

theorem State.release_keepsPorts (c : SpanCause) (s : State) (d : Degree) : KeepsPorts s (State.release c s d) :=
  State.enterDark_keepsPorts s ..

theorem State.probeManually_keepsPorts (ms : Nat) (s : State) (d : Degree) :
    KeepsPorts s (State.probeManually ms s d) := State.moveSpan_keepsPorts s ..

/-- A millisecond runs timers down, which no grant reads. -/
theorem State.tick_keepsPorts : KeepsPorts s s.tick :=
  .of_sources fun _ => .inr ⟨rfl, grantOf_congr_spans _ fun d _ => by rw [State.tick, look_ofFn]; rfl⟩

end Sys2Proof.Machine
end

section
/-! SUPPORT. Every command but those of the grant unit and the span controller, and the resets, leaves both as they
stand. -/

namespace Sys2Proof.Machine

variable (s : State)

/-! ### The condition unit, the front end, the hazard map -/

theorem State.distribute_light (c : ChannelNo) (v : Int) : LightStands s (s.distribute c v) := by
  unfold State.distribute
  dsimp only
  split
  · exact (State.feedDark_side s _ v).light
  · exact .refl s
  · exact (State.feedReflect_side _ _ _).light
  · exact (State.feedPump_side s _ v).light

theorem State.forceClear_light (d : Degree) : LightStands s (s.forceClear d) := by
  unfold State.forceClear
  dsimp only
  split
  · exact (State.clearDue_side _ _ _).light
  · exact ⟨rfl, rfl⟩

theorem State.acceptContact_light (k : ContactNo) : LightStands s (s.acceptContact k) := by
  unfold State.acceptContact
  dsimp only
  split
  · exact (State.contactRaise_side _ k _).light
  · exact ⟨rfl, rfl⟩
  · exact (State.contactClear_side _ k _).light

theorem State.takeSetContact_light (k u l d t : Byte) : LightStands s (s.takeSetContact k u l d t).1 := by
  unfold State.takeSetContact
  split
  · exact (State.contactClear_side s _ _).light
  · exact .refl s

theorem State.lookUp_light (k : Key) : LightStands s (s.lookUp k) := by
  rw [State.lookUp_eq]
  exact ⟨rfl, rfl⟩

theorem State.reevaluate_light : LightStands s s.reevaluate := by
  rw [State.reevaluate_eq]
  exact ⟨rfl, rfl⟩

theorem State.leaveReset_light : LightStands s s.leaveReset := by
  unfold State.leaveReset
  split
  · exact (State.raise_side _ _).light
  · exact .refl s

/-! ### Lines, captures, claims -/

theorem State.takeSetSite_light (o a b c d : Half) : LightStands s (s.takeSetSite o a b c d).1 := by
  unfold State.takeSetSite
  dsimp only
  split
  · exact ⟨rfl, rfl⟩
  · exact LightStands.foldl (fun t d => ⟨rfl, rfl⟩ : ∀ t d, LightStands t (State.handLine t d _)) _ _

theorem State.takeGetLine_light (d : Byte) : LightStands s (s.takeGetLine d).1 := by
  unfold State.takeGetLine
  split
  · exact .refl s
  · split <;> exact ⟨rfl, rfl⟩

theorem State.fillBuffer_light (d : Degree) (x : Sample) (s : State) (b : BufferNo) :
    LightStands s (State.fillBuffer d x s b) := by
  unfold State.fillBuffer
  dsimp only
  split
  · split_ifs <;> exact ⟨rfl, rfl⟩
  all_goals exact .refl s

theorem State.takeSample_light (d : Degree) (x : Sample) : LightStands s (s.takeSample d x) :=
  LightStands.foldl (State.fillBuffer_light d x) _ _

theorem State.takeTrigger_light (d : Degree) (k : Key) : LightStands s (s.takeTrigger d k) := by
  unfold State.takeTrigger
  split <;> exact ⟨rfl, rfl⟩

theorem State.takeNotice_light (n : Notice) : LightStands s (s.takeNotice n) := by
  unfold State.takeNotice
  split
  · split
    · exact (State.endClaim_side s _).light
    · exact .refl s
  · exact .refl s

theorem State.takeClaim_light (n : Byte) (l : List Byte) : LightStands s (s.takeClaim n l).1 := by
  unfold State.takeClaim
  split
  · exact .refl s
  · exact (State.endClaim_side s .replaced).light

/-! ### The host link -/

theorem State.frameByte_light (b : Byte) : LightStands s (s.frameByte b) := by
  unfold State.frameByte
  split
  · split <;> exact ⟨rfl, rfl⟩
  · split <;> exact ⟨rfl, rfl⟩
  · unfold State.keepByte
    dsimp only
    split
    · exact ⟨rfl, rfl⟩
    · split <;> exact ⟨rfl, rfl⟩

theorem State.placeInHand_light (f : Frame) : LightStands s (s.placeInHand f) := by
  unfold State.placeInHand
  dsimp only
  split
  · exact (State.replyInHand_side _ _).light
  · exact (State.replyInHand_side _ _).light
  · exact ⟨rfl, rfl⟩

theorem State.placeFrame_light (f : Frame) : LightStands s (s.placeFrame f) := by
  unfold State.placeFrame
  split
  · exact State.placeInHand_light s f
  · split <;> exact ⟨rfl, rfl⟩
  · split_ifs <;> exact ⟨rfl, rfl⟩

theorem State.emptyHand_light : LightStands s s.emptyHand := by
  unfold State.emptyHand
  split
  · exact State.placeInHand_light _ _
  · exact ⟨rfl, rfl⟩

/-- The soft reset follows this REPLY_SENT: the reply sent is that of a RESET_PART in hand (R168, R176). -/
def State.SoftResetDue (s : State) : Prop :=
  ∃ h r rest, s.link.hand = some h ∧ h.isResetPart = true ∧ s.link.replies = r :: rest ∧ r.busy = false

/-- A reply that has been sent leaves the collections and the light, or it was that of RESET_PART and the soft reset
follows. -/
theorem execReplySent_stands_or_resets :
    Answers (fun t => (Spares s t ∧ LightStands s t) ∨ (s.SoftResetDue ∧ ∃ u : State, t = u.softReset))
      (execReplySent s) := by
  unfold execReplySent
  split
  · next r rest hreplies =>
    have hlink : Spares s (s.setLink { s.link with replies := rest }) := .of_eq rfl rfl
    refine .next ?_
    dsimp only
    split
    · exact .inl ⟨hlink, ⟨rfl, rfl⟩⟩
    · next hbusy =>
      unfold State.handSent
      split
      · next h hhand =>
        split
        · next hreset => exact .inr ⟨⟨h, r, rest, hhand, hreset, hreplies, by simpa using hbusy⟩, _, rfl⟩
        · exact .inl ⟨hlink.trans (State.emptyHand_spares _), State.emptyHand_light _⟩
      · exact .inl ⟨hlink, ⟨rfl, rfl⟩⟩
  · exact .next (.inl ⟨.refl s, .refl s⟩)

theorem execResetPart_light : Answers (LightStands s) (execResetPart s) := by
  have hreply : ∀ t, LightStands s t →
      LightStands s (if t.awaits = some .resetPart then t.replyInHand [codeOk] else t) := fun t ht => by
    split
    · exact ht.trans (State.replyInHand_side _ _).light
    · exact ht
  refine .next (hreply _ ?_)
  split
  · exact .refl s
  · exact State.placeFrame_light s _

/-! ### All commands -/

/-- The commands of the grant unit and the span controller, and those that reset the part. -/
def movesLight : Instr → Bool
  | .powerOnReset | .replySent | .restrictionOrder | .clearAtGrantUnit | .removalOrder | .setSource .. | .holdSource ..
  | .releaseLatch _ | .cutOrder | .lockOrder | .clearAtSpanController | .blockerReexamination | .settleExpiry _
  | .intervalExpiry _ | .probeTimerExpiry _ | .requestTimerExpiry _ | .rampStepExpiry _ | .farWordAtSpanController _
  | .siteOrdinalChange _ | .setSpan .. | .lock _ | .resume .. | .unlock .. | .probeNow .. => true
  | _ => false

theorem State.serve_light {s : State} {r : State × List Byte} (i : Instr) (h : LightStands s r.1) :
    Answers (LightStands s) (.next (State.serve i r)) :=
  .next (h.trans (State.answer_side r.1 i r.2).light)

/-- A query leaves the state but for its reply. -/
theorem State.query_light {s : State} {r : State × List Byte} (i : Instr) (h : r.1 = s) :
    Answers (LightStands s) (.next (State.serve i r)) :=
  State.serve_light i (h ▸ .refl _)

/-- Every command but those of `movesLight` leaves the grant unit and the span controller. -/
theorem exec_light (i : Instr) (hi : movesLight i = false) : Answers (LightStands s) (exec i s) := by
  cases i with
  | monitorReading c code valid =>
    have hfed := (State.feedFault_side { s with front := s.front.store c (s.readingAt c code valid) } c
      (s.readingAt c code valid).isFault).light
    exact .next (LightStands.trans (s := s) hfed (State.distribute_light _ c _))
  | historySample d =>
    simp only [exec, execHistorySample]
    split
    · exact .next (State.takeSample_light _ d _)
    · exact .next (.refl s)
  | lookup =>
    simp only [exec, execLookup]
    split
    · exact .next (State.lookUp_light _ _)
    all_goals exact .next (.refl s)
  | snapshotWrite =>
    simp only [exec, execSnapshotWrite]
    split
    · exact .next (State.writeSnapshot_side _ _ _ _).light
    all_goals exact .next (.refl s)
  | forcedClear d =>
    simp only [exec, execForcedClear]
    split
    · exact .next (State.forceClear_light _ d)
    · exact .next (.refl s)
  | contactLevelChange k => exact .next ⟨rfl, rfl⟩
  | debounceExpiry k =>
    simp only [exec, execDebounceExpiry]
    split
    · exact .next (State.acceptContact_light s k)
    · exact .next (.refl s)
  | masterShutAssertion =>
    refine .next ?_
    split
    · exact ⟨rfl, rfl⟩
    · exact (State.raise_side _ _).light
  | masterShutDeassertion => exact .next ⟨rfl, rfl⟩
  | clearDelayExpiry =>
    simp only [exec, execClearDelayExpiry]
    split
    · exact .next (State.clearDue_side _ _ _).light
    · exact .next (.refl s)
  | spanWordSend d => exact .next ⟨rfl, rfl⟩
  | spanWordReceived d l idle =>
    have hbytes : LightStands s (l.foldl (State.receiveByte d) s) :=
      (LineSide.foldl (State.receiveByte_side d) l s).light
    refine .next ?_
    split
    · exact hbytes.trans (State.fallIdle_side _ d).light
    · exact hbytes
  | lineTimerExpiry d =>
    simp only [exec, execLineTimerExpiry]
    split
    · exact .next (State.lineDecides_side _ _ _ _).light
    · exact .next (.refl s)
  | captureTrigger d =>
    simp only [exec, execCaptureTrigger]
    split
    · exact .next (State.takeTrigger_light _ d _)
    · exact .next (.refl s)
  | claimNotice n =>
    simp only [exec, execClaimNotice]
    split
    · exact .next (State.takeNotice_light (s.dropClaimEvent (.notice n)) n)
    · exact .next (.refl s)
  | claimBreak c =>
    simp only [exec, execClaimBreak]
    split
    · exact .next (State.endClaim_side (s.dropClaimEvent (.breakBy c)) _).light
    · exact .next (.refl s)
  | claimLifeExpiry =>
    simp only [exec, execClaimLifeExpiry]
    split
    · refine .next ?_
      split
      · exact (State.endClaim_side s _).light
      · exact .refl s
    · exact .next (.refl s)
  | counterZeroing =>
    simp only [exec, execCounterZeroing]
    split <;> exact .next ⟨rfl, rfl⟩
  | reevaluation =>
    simp only [exec, execReevaluation]
    split
    · exact .next (State.reevaluate_light _)
    all_goals exact .next (.refl s)
  | rewrittenSnapshotWrite =>
    simp only [exec, execRewrittenSnapshotWrite]
    split
    · exact .next (State.rewriteSnapshot_side _ _ _ _).light
    all_goals exact .next (.refl s)
  | reportEnqueue c =>
    simp only [exec, execReportEnqueue]
    split <;> exact .next ⟨rfl, rfl⟩
  | hostByteReceived b => exact .next (State.frameByte_light s b)
  | characterError =>
    simp only [exec, execCharacterError]
    split <;> exact .next ⟨rfl, rfl⟩
  | resync => exact .next ⟨rfl, rfl⟩
  | gapTimerExpiry =>
    simp only [exec, execGapTimerExpiry]
    split <;> exact .next ⟨rfl, rfl⟩
  | frameComplete =>
    simp only [exec, execFrameComplete]
    split
    · exact .next (State.placeFrame_light _ _)
    · exact .next (.refl s)
  | setChannel c d g =>
    refine State.serve_light _ ?_
    unfold State.takeSetChannel
    split <;> exact ⟨rfl, rfl⟩
  | getReading a b => exact State.query_light _ (State.takeGetReading_state s a b)
  | setContact k u l d t => exact State.serve_light _ (State.takeSetContact_light s k u l d t)
  | getContact => exact State.query_light _ rfl
  | getConditions a b => exact State.query_light _ (State.takeGetConditions_state s a b)
  | putEntry p g k c n as x w =>
    refine State.serve_light _ (refuseIllFormed_fst _ (.refl s) ?_)
    unfold State.takePutEntry
    split
    · exact ⟨rfl, rfl⟩
    · split <;> exact ⟨rfl, rfl⟩
    · exact .refl s
  | parkEntry e =>
    refine State.serve_light _ ?_
    unfold State.takeParkEntry
    split
    · exact .refl s
    · split <;> exact ⟨rfl, rfl⟩
  | unparkEntry e =>
    refine State.serve_light _ ?_
    unfold State.takeUnparkEntry
    split
    · exact .refl s
    · split <;> exact ⟨rfl, rfl⟩
  | freeEntry e =>
    refine State.serve_light _ ?_
    unfold State.takeFreeEntry
    split <;> exact ⟨rfl, rfl⟩
  | getEntry e => exact State.query_light _ (State.takeGetEntry_state s e)
  | testKey k a b => exact State.query_light _ (State.takeTestKey_state s k a b)
  | getSource i => exact State.query_light _ (State.takeGetSource_state s i)
  | getSpan d => exact State.query_light _ (State.takeGetSpan_state s d)
  | setSite o a b c d => exact State.serve_light _ (State.takeSetSite_light s o a b c d)
  | getLine d => exact State.serve_light _ (State.takeGetLine_light s d)
  | setProfile p d l a m =>
    refine State.serve_light _ ?_
    unfold State.takeSetProfile
    split <;> exact ⟨rfl, rfl⟩
  | getProfile p d => exact State.query_light _ (State.takeGetProfile_state s p d)
  | selectProfile p =>
    refine State.serve_light _ ?_
    unfold State.takeSelectProfile
    split
    · exact .refl s
    · dsimp only
      split <;> exact ⟨rfl, rfl⟩
  | claim n l => exact State.serve_light _ (refuseIllFormed_fst _ (.refl s) (State.takeClaim_light s n l))
  | getClaim => exact State.query_light _ rfl
  | readCapture b p => exact State.query_light _ (State.takeReadCapture_state s b p)
  | releaseCapture b =>
    refine State.serve_light _ ?_
    unfold State.takeReleaseCapture
    split
    · exact .refl s
    · split <;> exact ⟨rfl, rfl⟩
  | getCapture => exact State.query_light _ rfl
  | readReports => exact State.serve_light _ ⟨rfl, rfl⟩
  | setNotify m =>
    refine State.serve_light _ ?_
    unfold State.takeSetNotify
    split <;> exact ⟨rfl, rfl⟩
  | identify => exact State.query_light _ rfl
  | resetPart => exact execResetPart_light s
  | _ => cases hi

end Sys2Proof.Machine
end

section
/-! O57 and O55. Every step keeps every drive port at its grant (R72 to R76), and the reset state is safe. -/

namespace Sys2Proof.Machine

/-! ### The resets -/

/-- A source under a hold of OFF whose port is off is safe whatever the spans are. -/
theorem portSafe_of_held_off (spans : Vector Span 4) {x : Source} (hh : x.hold = .off)
    (hp : x.port = (none, false, -1000)) : PortSafe spans x := by
  obtain ⟨hg, he, hs⟩ : x.grant = none ∧ x.enable = false ∧ x.setpoint = -1000 := by
    simpa [Source.port] using hp
  exact ⟨hg.trans ((grantOf_eq_none_iff spans x).mpr (.inr (.inr (.inl hh)))).symm, by rw [he, hg]; rfl,
    by rw [hs, hg]; rfl⟩

theorem KeepsPorts.of_portsSafe {s t : State} (h : t.PortsSafe) : KeepsPorts s t := by
  rw [State.portsSafe_iff] at h
  exact ⟨fun _ => h.1, fun _ => h.2⟩

theorem State.powerOnBlocks_portsSafe (s : State) : s.powerOnBlocks.PortsSafe := fun i => by
  have hi : s.powerOnBlocks.source i = defaultSource := look_replicate _ i
  rw [hi]
  exact portSafe_of_held_off _ rfl rfl

theorem State.powerOn_portsSafe (s : State) : s.powerOn.PortsSafe :=
  (State.leaveReset_light s.powerOnBlocks).keepsPorts.portsSafe s.powerOnBlocks_portsSafe

theorem State.softReset_portsSafe (s : State) : s.softReset.PortsSafe := by
  refine (State.leaveReset_light s.softResetBlocks).keepsPorts.portsSafe fun i => ?_
  rw [State.softResetBlocks_source]
  exact portSafe_of_held_off _ rfl rfl

/-! ### All commands -/

theorem KeepsPorts.serve {s : State} {r : State × List Byte} (i : Instr) (h : KeepsPorts s r.1) :
    Answers (KeepsPorts s) (.next (State.serve i r)) :=
  .next (h.trans (State.answer_side r.1 i r.2).light.keepsPorts)

/-- A request with a degree list, which is refused where the list is ill formed. -/
theorem KeepsPorts.serve_fitting {s : State} {r : State × List Byte} (i : Instr) (b : Bool) (h : KeepsPorts s r.1) :
    Answers (KeepsPorts s) (.next (State.serve i (refuseIllFormed b s r))) :=
  KeepsPorts.serve i (refuseIllFormed_fst b (.refl s) h)

/-- Taking an event out of transit before a step that keeps the ports. -/
theorem KeepsPorts.after {s t u : State} (h : KeepsPorts t u) (hst : LightStands s t := by exact ⟨rfl, rfl⟩) :
    KeepsPorts s u := hst.keepsPorts.trans h

theorem exec_keepsPorts (s : State) (i : Instr) : Answers (KeepsPorts s) (exec i s) := by
  cases hi : movesLight i with
  | false => exact fun t ht => (exec_light s i hi t ht).keepsPorts
  | true =>
    cases i with
    | powerOnReset => exact .next (.of_portsSafe s.powerOn_portsSafe)
    | replySent =>
      intro t ht
      obtain ⟨-, h⟩ | ⟨-, u, rfl⟩ := execReplySent_stands_or_resets s t ht
      · exact h.keepsPorts
      · exact .of_portsSafe u.softReset_portsSafe
    | restrictionOrder =>
      simp only [exec, execRestrictionOrder]
      split
      · next t c p o rest _ =>
        exact .next (KeepsPorts.foldl (State.updateSource_keepsPorts (Source.port_takeOrder c p o)) _ _).after
      all_goals exact .next (.refl s)
    | clearAtGrantUnit =>
      simp only [exec, execClearAtGrantUnit]
      split
      · next k rest _ =>
        exact .next (KeepsPorts.foldl (State.updateSource_keepsPorts (Source.port_takeClear k)) _ _).after
      all_goals exact .next (.refl s)
    | removalOrder =>
      simp only [exec, execRemovalOrder]
      split
      · next o rest _ =>
        exact .next (KeepsPorts.foldl (State.updateSource_keepsPorts (Source.port_takeRemoval o)) _ _).after
      all_goals exact .next (.refl s)
    | setSource i e d f r p => exact KeepsPorts.serve _ (State.takeSetSource_keepsPorts s i e d f r p)
    | holdSource i h => exact KeepsPorts.serve _ (State.takeHoldSource_keepsPorts s i h)
    | releaseLatch i => exact KeepsPorts.serve _ (State.takeReleaseLatch_keepsPorts s i)
    | cutOrder =>
      simp only [exec, execCutOrder]
      split
      · exact .next (State.takeCut_keepsPorts _ _ _).after
      all_goals exact .next (.refl s)
    | lockOrder =>
      simp only [exec, execLockOrder]
      split
      · exact .next (State.takeLock_keepsPorts _ _ _).after
      all_goals exact .next (.refl s)
    | clearAtSpanController =>
      simp only [exec, execClearAtSpanController]
      split
      · exact .next (State.takeSpanClear_keepsPorts _ _ _).after
      all_goals exact .next (.refl s)
    | blockerReexamination =>
      simp only [exec, execBlockerReexamination]
      split
      · exact .next (State.reexamine_keepsPorts _ _).after
      all_goals exact .next (.refl s)
    | settleExpiry d =>
      simp only [exec, execSettleExpiry]
      split
      · exact .next (State.enterAwait_keepsPorts s ..)
      · exact .next (.refl s)
    | intervalExpiry d =>
      have hcleared : KeepsPorts s (s.setSpan d { s.span d with honoured := false }) :=
        State.setSpan_keepsPorts s d rfl
      simp only [exec, execIntervalExpiry]
      split
      · split
        · exact .next (hcleared.trans (State.setSpan_keepsPorts _ d rfl))
        · exact .next (hcleared.trans (State.intervalInAwait_keepsPorts _ d))
        all_goals exact .next (.refl s)
      · exact .next (.refl s)
    | probeTimerExpiry d =>
      simp only [exec, execProbeTimerExpiry]
      split
      · split
        · exact .next (State.moveSpan_keepsPorts s ..)
        · exact .next (State.enterAwait_keepsPorts s ..)
        all_goals exact .next (State.failProbe_keepsPorts s d)
      · exact .next (.refl s)
    | requestTimerExpiry d =>
      simp only [exec, execRequestTimerExpiry]
      split
      · exact .next (State.setSpan_keepsPorts s d rfl)
      · exact .next (.refl s)
    | rampStepExpiry d =>
      simp only [exec, execRampStepExpiry]
      split
      · exact .next (State.stepRamp_keepsPorts s d)
      · exact .next (.refl s)
    | farWordAtSpanController d =>
      simp only [exec, execFarWordAtSpanController]
      split
      · exact .next (State.takeFarWord_keepsPorts _ d _).after
      all_goals exact .next (.refl s)
    | siteOrdinalChange d =>
      simp only [exec, execSiteOrdinalChange]
      split
      · exact .next (State.takeOrdinalChange_keepsPorts _ d _).after
      all_goals exact .next (.refl s)
    | setSpan d c => exact KeepsPorts.serve _ (State.takeSetSpan_keepsPorts s d c)
    | lock d => exact KeepsPorts.serve _ (State.takeLockRequest_keepsPorts s d)
    | resume n l =>
      exact KeepsPorts.serve_fitting _ _ (State.spanCommit_keepsPorts s n l _ (State.release_keepsPorts _) _)
    | unlock n l =>
      exact KeepsPorts.serve_fitting _ _ (State.spanCommit_keepsPorts s n l _ (State.release_keepsPorts _) _)
    | probeNow n t l =>
      exact KeepsPorts.serve_fitting _ _ (State.spanCommit_keepsPorts s n l _ (State.probeManually_keepsPorts _) _)
    | _ => cases hi

/-- Settles O57: a millisecond keeps the ports (`State.tick_keepsPorts`), and so does every command
(`exec_keepsPorts`). -/
theorem everyStepKeepsPortsSafe : Obligations.EveryStepKeepsPortsSafe := by
  intro s t hs h
  unfold step at h
  split at h
  · cases h
    exact s.tick_keepsPorts.portsSafe hs
  · next i rest _ => exact (exec_keepsPorts { s with pending := rest } i t h).portsSafe hs

/-! ### The reset state -/

/-- The reset state is as a power-on reset leaves it. -/
theorem State.powerOn_reset : State.reset.powerOn = State.reset := by decide

theorem defaultSpan_safe : SpanSafe defaultSpan := by
  constructor <;> decide

theorem defaultLink_safe : LinkSafe defaultLink where
  queue := by decide
  attention := by decide
  gap := by decide
  frame _ _ h := nomatch h
  busy := by decide
  own := by decide
  waiting := by decide

/-- Settles O55: the reset state is as a power-on reset leaves it, and its blocks are the default ones. -/
theorem theResetStateIsSafe : Obligations.TheResetStateIsSafe := by
  have hreset := State.powerOn_reset
  refine ⟨hreset ▸ State.reset.powerOn_collectionsSafe, hreset ▸ State.reset.powerOn_portsSafe, fun d => ?_,
    defaultLink_safe, fun d => ?_, defaultCapture_safe, State.conditionsSafe_of_empty rfl rfl,
    fun _ h => (nomatch h), hreset ▸ (State.reset.powerOnBlocks_rangesSafe).of_unranged (State.powerOn_keeps _) rfl⟩
  · have hd : State.reset.span d = defaultSpan := look_replicate _ d
    exact hd ▸ defaultSpan_safe
  · have hd : State.reset.line d = defaultLine := look_replicate _ d
    exact hd ▸ defaultLine_safe

end Sys2Proof.Machine
end

section
/-! O34, O35, O36 and O38. The events and requests that change sources: a restriction order (R66, R67), a clear and a
removal (R68, R69), an operator hold (R64), and the release of latches under a claim (R70, R150, R151). -/

namespace Sys2Proof.Machine

variable (s : State)

/-! ### What changes one source, and what changes them all -/

theorem serve_answer (i : Instr) {r : State × List Byte} {u : State} {b : List Byte} (h : r = (u, b)) :
    (.next (State.serve i r) : Result) = .next (u.answer i b) := by
  rw [h, State.serve]

theorem allSources_filter_eq (i : SourceNo) : allSources.filter (fun j => decide (j = i)) = [i] := by
  revert i
  decide

/-- One source written over without a change of its enable line, and its grant recomputed. -/
theorem State.setSource_recompute_changed (i : SourceNo) {y : Source} (he : y.enable = (s.source i).enable) :
    SourcesChanged s (fun j => if j = i then y.regranted s.ctrl.spans else s.source j)
      ((s.setSource i y).recompute false i) := by
  have hwrite : { y with enable := (s.source i).enable } = y := by rw [← he]
  have hchanged := State.updateSources_changed (fun x => { y with enable := x.enable }) (fun _ => rfl) s
    fun j => decide (j = i)
  rw [allSources_filter_eq, List.foldl_cons, List.foldl_nil, State.updateSource, hwrite] at hchanged
  refine ⟨fun j => ?_, hchanged.frame⟩
  rw [hchanged.sources]
  by_cases hj : j = i
  · subst hj
    simp [hwrite]
  · simp [hj]

theorem State.updateSource_changed {f : Source → Source} (he : ∀ x, (f x).enable = x.enable) (i : SourceNo) :
    SourcesChanged s (fun j => if j = i then (f (s.source i)).regranted s.ctrl.spans else s.source j)
      (State.updateSource f s i) :=
  s.setSource_recompute_changed i (he _)

theorem State.updateAll_changed {f : Source → Source} (he : ∀ x, (f x).enable = x.enable) :
    SourcesChanged s (fun j => (f (s.source j)).regranted s.ctrl.spans)
      (allSources.foldl (State.updateSource f) s) := by
  have hchanged := State.updateSources_changed f he s fun _ => true
  rwa [List.filter_true] at hchanged

/-! ### A restriction order at one collection (R66, R67) -/

/-- The record of an order. -/
def orderRecord (c : Ceiling) (p : Persistence) (o : Origin) : Restriction :=
  { origin := o, ceiling := c, persistence := p, latched := false }

theorem Source.takeOrder_replaces {x : Source} {o : Origin} (h : ∃ r ∈ x.restrictions, r.origin = o) (c : Ceiling)
    (p : Persistence) : x.takeOrder c p o = { x with restrictions := x.restrictions.map (Restriction.replaced c p o) } :=
  if_pos (List.any_eq_true.mpr (by simpa using h))

theorem Source.takeOrder_new {x : Source} {o : Origin} (h : ∀ r ∈ x.restrictions, r.origin ≠ o) (c : Ceiling)
    (p : Persistence) : x.takeOrder c p o = if x.restrictions.length < 8 then
      { x with restrictions := x.restrictions ++ [orderRecord c p o] }
    else { x with overflow := true, lostShut := x.lostShut || decide (o = shutFloor) } :=
  if_neg (by simpa using h)

/-- A restriction order addresses source `j` (R66). -/
def State.addresses (g : Target) (j : SourceNo) : Bool :=
  match g with
  | .one i => decide (j = i)
  | .exposure e => (s.source j).exposure == e
  | .every => true

theorem State.addresses_iff (g : Target) (j : SourceNo) :
    s.addresses g j = true ↔ g = .one j ∨ g = .exposure (s.source j).exposure ∨ g = .every := by
  cases g with
  | one i => simp [State.addresses, eq_comm (a := j)]
  | exposure e => simp [State.addresses, eq_comm (a := e)]
  | every => simp [State.addresses]

theorem State.addressed_eq (g : Target) : s.addressed g = allSources.filter (s.addresses g) := by
  cases g with
  | one i => exact (allSources_filter_eq i).symm
  | exposure e => rfl
  | every => exact (List.filter_true _).symm

theorem execRestrictionOrder_taken {s : State} {g : Target} {c : Ceiling} {p : Persistence} {o : Origin}
    {rest : List GrantEvent} (h : s.transit.toGrant = .restriction g c p o :: rest) :
    exec .restrictionOrder s =
      .next (State.restrict { s with transit := { s.transit with toGrant := rest } } g c p o) := by
  simp only [exec, execRestrictionOrder, h]

theorem State.restrict_changed (g : Target) (c : Ceiling) (p : Persistence) (o : Origin) :
    SourcesChanged s (fun j => if s.addresses g j then ((s.source j).takeOrder c p o).regranted s.ctrl.spans
      else s.source j) (s.restrict g c p o) := by
  rw [State.restrict, State.addressed_eq]
  exact State.updateSources_changed (fun x => x.takeOrder c p o) (fun x => (x.takeOrder_port c p o).2.1) s _

/-- A source whose overflow mark is set is granted nothing (R67, R73). -/
theorem Source.regranted_overflow (spans : Vector Span 4) {x : Source} (h : x.overflow = true) :
    (x.regranted spans).grant = none := by
  rw [Source.regranted_grant, grantOf_eq_none_iff]
  exact .inr (.inl h)

/-- Settles O34: each source addressed takes the order (`State.restrict_changed`), by whether its collection holds the
origin and has room. -/
theorem aRestrictionOrderIsTaken : Obligations.ARestrictionOrderIsTaken := by
  intro g c p o rest s h
  let u : State := { s with transit := { s.transit with toGrant := rest } }
  refine ⟨_, _, execRestrictionOrder_taken h, u.restrict_changed g c p o, fun j hj => ?_, fun j hj => ?_⟩
  · have hf : u.addresses g j = true := (u.addresses_iff g j).mpr hj
    dsimp only
    rw [if_pos hf]
    refine ⟨fun hmem => ?_, fun hnew hroom => ?_, fun hnew hfull => ?_⟩
    · exact congrArg (Source.regranted s.ctrl.spans) (Source.takeOrder_replaces hmem c p)
    · refine congrArg (Source.regranted s.ctrl.spans) ((Source.takeOrder_new hnew c p).trans ?_)
      exact if_pos hroom
    · have htaken := (Source.takeOrder_new hnew c p).trans (if_neg (Nat.not_lt.mpr hfull))
      refine ⟨congrArg (Source.regranted s.ctrl.spans) htaken, Source.regranted_overflow _ ?_⟩
      exact congrArg Source.overflow htaken
  · exact if_neg (mt (u.addresses_iff g j).mp hj)

/-! ### A clear and a removal at one collection (R68, R69) -/

/-- Records that leave take the overflow mark with the last of them (R67); a collection that none leaves stands. -/
theorem Source.withRestrictions_unless (x : Source) (l : List Restriction) :
    (if l = x.restrictions then x else x.withRestrictions l) = { x with
      restrictions := l
      overflow := x.overflow && !(l.isEmpty && !x.restrictions.isEmpty) } := by
  split
  · next h =>
    subst h
    simp
  · next h =>
    have hempty : l.isEmpty = true → x.restrictions.isEmpty = false := fun hl => by
      rw [List.isEmpty_iff.mp hl] at h
      simpa using Ne.symm h
    rw [Source.withRestrictions]
    cases hl : l.isEmpty with
    | false => simp
    | true => simp [hempty hl]

theorem Restriction.takeClear_eq (k : Key) (r : Restriction) : Restriction.takeClear k r =
    if r.origin.key ≠ k then some r
    else match r.persistence with
      | .follow => none
      | .latch => some { r with latched := true } := by
  unfold Restriction.takeClear
  by_cases h : r.origin.key = k
  · exact (if_pos h).trans (if_neg (not_not_intro h)).symm
  · exact (if_neg h).trans (if_pos h).symm

theorem Source.takeClear_eq (x : Source) (k : Key) : x.takeClear k = { x with
    restrictions := x.restrictions.filterMap (Restriction.takeClear k)
    overflow := x.overflow &&
      !((x.restrictions.filterMap (Restriction.takeClear k)).isEmpty && !x.restrictions.isEmpty)
    lostShut := x.lostShut && decide (k ≠ shutKey) } := by
  unfold Source.takeClear
  dsimp only
  rw [Source.withRestrictions_unless]
  by_cases h : k = shutKey <;> simp [h]

theorem Source.takeRemoval_eq (x : Source) (o : Origin) : x.takeRemoval o = { x with
    restrictions := x.restrictions.filter fun r => r.origin ≠ o ∨ r.latched = true
    overflow := x.overflow && !((x.restrictions.filter fun r => r.origin ≠ o ∨ r.latched = true).isEmpty &&
      !x.restrictions.isEmpty) } := by
  have hleft : (fun r : Restriction => !(r.origin == o && !r.latched)) =
      fun r => decide (r.origin ≠ o ∨ r.latched = true) := by
    funext r
    simp [beq_eq_decide]
  unfold Source.takeRemoval
  dsimp only
  rw [Source.withRestrictions_unless, hleft]

theorem execClearAtGrantUnit_taken {s : State} {k : Key} {rest : List GrantEvent}
    (h : s.transit.toGrant = .clear k :: rest) : exec .clearAtGrantUnit s =
      .next (allSources.foldl (State.updateSource fun x => x.takeClear k)
        { s with transit := { s.transit with toGrant := rest } }) := by
  simp only [exec, execClearAtGrantUnit, h]

theorem execRemovalOrder_taken {s : State} {o : Origin} {rest : List GrantEvent}
    (h : s.transit.toGrant = .removal o :: rest) : exec .removalOrder s =
      .next (allSources.foldl (State.updateSource fun x => x.takeRemoval o)
        { s with transit := { s.transit with toGrant := rest } }) := by
  simp only [exec, execRemovalOrder, h]

/-- Settles O35: what a clear and a removal leave of each collection, at every source. -/
theorem clearsAndRemovalsAtTheGrantUnit : Obligations.ClearsAndRemovalsAtTheGrantUnit := by
  intro rest s
  let u : State := { s with transit := { s.transit with toGrant := rest } }
  refine ⟨fun k h => ?_, fun o h => ?_⟩
  · refine ⟨_, fun j => (s.source j).restrictions.filterMap (Restriction.takeClear k), execClearAtGrantUnit_taken h,
      fun j => congrArg (List.filterMap · (s.source j).restrictions) (funext (Restriction.takeClear_eq k)), ?_⟩
    have hchanged := u.updateAll_changed (f := fun x => x.takeClear k) fun x => (x.takeClear_port k).2.1
    exact ⟨fun j => (hchanged.sources j).trans (congrArg (Source.regranted s.ctrl.spans) ((s.source j).takeClear_eq k)),
      hchanged.frame⟩
  · refine ⟨_, _, execRemovalOrder_taken h, fun j => rfl, ?_⟩
    have hchanged := u.updateAll_changed (f := fun x => x.takeRemoval o) fun x => (x.takeRemoval_port o).2.1
    exact ⟨fun j => (hchanged.sources j).trans
      (congrArg (Source.regranted s.ctrl.spans) ((s.source j).takeRemoval_eq o)), hchanged.frame⟩

/-! ### An operator hold (R64) -/

theorem hold?_holdByte (h : Hold) : hold? (holdByte h) = some h := by
  cases h <;> rfl

theorem execHoldSource_taken (i : SourceNo) (h : Hold) :
    exec (.holdSource (BitVec.ofNat 8 i.val) (holdByte h)) s =
      .next ((State.updateSource (fun x => { x with hold := h }) s i).answer
        (.holdSource (BitVec.ofNat 8 i.val) (holdByte h)) [0x00]) := by
  refine serve_answer _ ?_
  simp only [State.takeHoldSource, index?_ofNat (show 16 ≤ 256 by decide), hold?_holdByte, codeOk]

/-- Settles O36: the refusals field by field; the hold stored (`execHoldSource_taken`), and what it does to the grant
(`le_hold_of_grantOf`). -/
theorem anOperatorHoldIsSet : Obligations.AnOperatorHoldIsSet := by
  intro a b s
  refine ⟨fun h => serve_refused _ (s.takeHoldSource_refused (h.imp index?_eq_none hold?_eq_none)), ?_⟩
  rintro i h rfl rfl
  have hchanged := s.updateSource_changed (f := fun x => { x with hold := h }) (fun _ => rfl) i
  have hgrant : ((State.updateSource (fun x => { x with hold := h }) s i).source i).grant =
      grantOf s.ctrl.spans { s.source i with hold := h } := by
    rw [hchanged.sources, if_pos rfl, Source.regranted_grant]
  refine ⟨_, execHoldSource_taken s i h, hchanged, fun hoff => ?_, fun v hv => ?_⟩
  · rw [hgrant, grantOf_eq_none_iff]
    exact .inr (.inr (.inl hoff))
  · rw [hgrant] at hv
    exact le_hold_of_grantOf hv

/-! ### The release of latches (R70, R150, R151) -/

theorem claimCheck_eq_none {c : Standing} {m : DegSet} (hc : s.claim.standing = some c) (hm : c.degrees = m)
    (hr : ∀ r ∈ c.recorded, r.changes = (s.span r.degree).changes ∧ r.touch = look s.cond.touch r.degree) :
    s.claimCheck m = none := by
  have hall : (c.recorded.all fun r => r == s.numbersNow r.degree) = true := by
    refine List.all_eq_true.mpr fun r hmem => beq_iff_eq.mpr ?_
    obtain ⟨hchanges, htouch⟩ := hr r hmem
    rw [State.numbersNow, ← hchanges, ← htouch]
  simp only [State.claimCheck, hc, hm, hall, ne_eq, not_true_eq_false, if_true, if_false]

theorem DegSet.toList_one (d : Degree) : DegSet.toList (DegSet.one d) = [d] := by
  revert d
  decide

theorem State.endClaim_of_some {c : Standing} (h : s.claim.standing = some c) (e : EndCause) :
    s.endClaim e = { s with claim := { standing := none, lastEnd := e } } := by
  simp only [State.endClaim, h]
  rfl

theorem State.takeReleaseLatch_unexposed {i : SourceNo} (h : (s.source i).exposure.degree = none) :
    s.takeReleaseLatch (BitVec.ofNat 8 i.val) = (s.updateSource Source.takeRelease i, [codeOk]) := by
  simp only [State.takeReleaseLatch, index?_ofNat (show 16 ≤ 256 by decide), h]

theorem State.takeReleaseLatch_exposed {i : SourceNo} {d : Degree} (h : (s.source i).exposure.degree = some d) :
    s.takeReleaseLatch (BitVec.ofNat 8 i.val) =
      s.commit (DegSet.one d) (fun _ => .pass) (fun t _ => t.updateSource Source.takeRelease i) codeOk := by
  simp only [State.takeReleaseLatch, index?_ofNat (show 16 ≤ 256 by decide), h]

/-- A commit for one degree whose claim check passes and which has no precondition. -/
theorem State.commit_one {d : Degree} {c : Standing} (hc : s.claim.standing = some c)
    (hcheck : s.claimCheck (DegSet.one d) = none) (f : State → Degree → State) (ok : Byte) :
    s.commit (DegSet.one d) (fun _ => .pass) f ok =
      (f { s with claim := { standing := none, lastEnd := .consumed } } d, [ok]) := by
  unfold State.commit
  rw [hcheck, DegSet.toList_one, s.endClaim_of_some hc]
  rfl

theorem State.commit_lost {m : DegSet} {l : LossReason} (h : s.claimCheck m = some l) (p : Degree → Reason)
    (f : State → Degree → State) (ok : Byte) :
    s.commit m p f ok = (s.endClaim .consumed, [codeClaimLost, lossByte l]) := by
  rw [State.commit, h]

/-- Settles O38, by the exposure of the source and the claim check. -/
theorem latchesAreReleasedUnderAClaim : Obligations.LatchesAreReleasedUnderAClaim := by
  rintro _ i s rfl
  have hreleased : ∀ u : State, SourcesChanged u (fun j => if j = i then
      ((u.source i).takeRelease).regranted u.ctrl.spans else u.source j) (State.updateSource Source.takeRelease u i) :=
    fun u => u.updateSource_changed (f := Source.takeRelease) (fun _ => rfl) i
  refine ⟨fun hexp => ⟨_, ?_, hreleased s⟩, fun d c hexp hc hm hr => ⟨_, ?_, hreleased _⟩, fun d hexp l hl => ?_⟩
  · exact serve_answer _ (s.takeReleaseLatch_unexposed hexp)
  · exact serve_answer _
      ((s.takeReleaseLatch_exposed hexp).trans (s.commit_one hc (claimCheck_eq_none s hc hm hr) _ _))
  · exact serve_answer _ ((s.takeReleaseLatch_exposed hexp).trans (s.commit_lost hl _ _ _))

end Sys2Proof.Machine
end

section
/-! O33. What holds a source OFF from the floor order of MASTER_SHUT to its clear (R67, R75): the order's record in the
collection, or the order kept in mind. Every event of the grant unit but that clear keeps it. -/

namespace Sys2Proof.Machine

/-! ### One collection -/

/-- The record of MASTER_SHUT's floor order (R52, R75). -/
def shutRecord : Restriction := orderRecord .off .follow shutFloor

theorem shutHeld_iff (x : Source) : ShutHeld x ↔ x.lostShut = true ∨ shutRecord ∈ x.restrictions := by
  refine or_congr_right ⟨?_, fun h => ⟨_, h, rfl, rfl, rfl, rfl⟩⟩
  rintro ⟨⟨o, c, p, l⟩, hmem, rfl, rfl, rfl, rfl⟩
  exact hmem

theorem ShutHeld.of_collection {x y : Source} (hx : ShutHeld x) (h : y.collection = x.collection) : ShutHeld y := by
  obtain ⟨hrestrictions, -, hlost⟩ : y.restrictions = x.restrictions ∧ y.overflow = x.overflow ∧
      y.lostShut = x.lostShut := by simpa [Source.collection] using h
  rwa [ShutHeld, hrestrictions, hlost]

/-- Where records leave, the order's own stays or the order is in mind. -/
theorem ShutHeld.withRestrictions {x : Source} (h : ShutHeld x) {l : List Restriction}
    (hl : shutRecord ∈ x.restrictions → shutRecord ∈ l) : ShutHeld (x.withRestrictions l) :=
  (shutHeld_iff _).mpr (((shutHeld_iff x).mp h).imp_right hl)

theorem shutHeld_unless {x : Source} (h : ShutHeld x) {l : List Restriction}
    (hl : shutRecord ∈ x.restrictions → shutRecord ∈ l) :
    ShutHeld (if l = x.restrictions then x else x.withRestrictions l) := by
  split
  · exact h
  · exact h.withRestrictions hl

theorem shutRecord_replaced {c : Ceiling} {p : Persistence} {o : Origin}
    (ho : o = shutFloor → c = .off ∧ p = .follow) : shutRecord.replaced c p o = shutRecord := by
  unfold Restriction.replaced
  split
  · next h =>
    obtain ⟨rfl, rfl⟩ := ho h.symm
    rfl
  · rfl

/-- An order, which is OFF and FOLLOW where it is MASTER_SHUT's floor, leaves a source held (R66, R67). -/
theorem ShutHeld.takeOrder {x : Source} (h : ShutHeld x) {c : Ceiling} {p : Persistence} {o : Origin}
    (ho : o = shutFloor → c = .off ∧ p = .follow) : ShutHeld (x.takeOrder c p o) := by
  rw [shutHeld_iff] at h
  by_cases hold : ∃ r ∈ x.restrictions, r.origin = o
  · rw [Source.takeOrder_replaces hold, shutHeld_iff]
    exact h.imp_right fun hmem => List.mem_map.mpr ⟨_, hmem, shutRecord_replaced ho⟩
  · rw [Source.takeOrder_new (by simpa using hold)]
    split
    · exact (shutHeld_iff _).mpr (h.imp_right (List.mem_append_left _))
    · exact (shutHeld_iff _).mpr (h.imp_left fun hl => by simp [hl])

/-- MASTER_SHUT's floor order holds every source that takes it: its record replaces one, or is added, or the order is
kept in mind (R66, R67, R75). -/
theorem shutHeld_takeOrder (x : Source) : ShutHeld (x.takeOrder .off .follow shutFloor) := by
  rw [shutHeld_iff]
  by_cases hold : ∃ r ∈ x.restrictions, r.origin = shutFloor
  · obtain ⟨r, hmem, hr⟩ := hold
    rw [Source.takeOrder_replaces ⟨r, hmem, hr⟩]
    refine .inr (List.mem_map.mpr ⟨r, hmem, ?_⟩)
    rw [Restriction.replaced, if_pos hr, hr]
    rfl
  · rw [Source.takeOrder_new (by simpa using hold)]
    split
    · exact .inr (List.mem_append_right _ (List.mem_singleton_self _))
    · exact .inl (by simp)

theorem shutFloor_of_floor {k : Key} (h : ({ key := k, entry := none } : Origin) = shutFloor) : k = shutKey :=
  congrArg Origin.key h

theorem floorReaches_shutKey {e : Exposure} {c : Ceiling} (h : floorReaches shutKey e = some c) : c = .off := by
  unfold floorReaches at h
  split at h
  · cases h
  · exact (Option.some.inj h).symm

theorem ShutHeld.takeFloor {x : Source} (h : ShutHeld x) (k : Key) : ShutHeld (x.takeFloor k) := by
  unfold Source.takeFloor
  split
  · next c hc =>
    refine h.takeOrder fun ho => ?_
    cases shutFloor_of_floor ho
    exact ⟨floorReaches_shutKey hc, rfl⟩
  · exact h

theorem ShutHeld.applyFloors {x : Source} (h : ShutHeld x) (s : State) : ShutHeld (s.applyFloors x) := by
  rw [State.applyFloors_eq]
  exact List.foldlRecOn _ _ h fun y hy k _ => hy.takeFloor k

theorem ShutHeld.takeClear {x : Source} (h : ShutHeld x) {k : Key} (hk : k ≠ shutKey) : ShutHeld (x.takeClear k) := by
  unfold Source.takeClear
  rw [if_neg hk]
  refine shutHeld_unless h fun hmem => List.mem_filterMap.mpr ⟨_, hmem, ?_⟩
  exact if_neg (show ¬shutKey = k from hk.symm)

theorem ShutHeld.takeRemoval {x : Source} (h : ShutHeld x) {o : Origin} (ho : o.entry ≠ none) :
    ShutHeld (x.takeRemoval o) := by
  refine shutHeld_unless h fun hmem => List.mem_filter.mpr ⟨hmem, ?_⟩
  have hne : shutFloor ≠ o := fun e => ho (e ▸ rfl)
  simpa [shutRecord, orderRecord] using hne

theorem ShutHeld.takeRelease {x : Source} (h : ShutHeld x) : ShutHeld x.takeRelease :=
  h.withRestrictions fun hmem => List.mem_filter.mpr ⟨hmem, rfl⟩

/-! ### What is on its way to the grant unit -/

/-- An order on its way to the grant unit is OFF and FOLLOW where it is MASTER_SHUT's floor, a removal is an entry's. -/
def GrantEvent.ShutSafe : GrantEvent → Prop
  | .restriction _ c p o => o = shutFloor → c = .off ∧ p = .follow
  | .removal o => o.entry ≠ none
  | .clear _ => True

theorem State.shutOrdersSafe_iff (s : State) : s.ShutOrdersSafe ↔ ∀ e ∈ s.transit.toGrant, e.ShutSafe := by
  refine ⟨fun h e he => ?_, fun h => ⟨fun _ _ _ _ he => h _ he, fun _ he => h _ he⟩⟩
  cases e with
  | restriction t c p o => exact h.orders t c p o he
  | removal o => exact h.removals o he
  | clear => trivial

theorem floorEvents_shutSafe (k : Key) : ∀ e ∈ floorEvents k, e.ShutSafe := by
  unfold floorEvents
  split
  · next t c hc =>
    refine List.forall_mem_singleton.mpr fun ho => ?_
    rw [shutFloor_of_floor ho] at hc
    cases hc
    exact ⟨rfl, rfl⟩
  · exact List.forall_mem_nil _

theorem State.ordersOf_shutSafe (s : State) (k : Key) (n : EntryNo) : ∀ e ∈ s.ordersOf k n, e.ShutSafe := by
  unfold State.ordersOf
  split
  · exact List.forall_mem_map.mpr fun a _ ho => nomatch congrArg Origin.entry ho
  all_goals exact List.forall_mem_nil _

theorem State.removalsOf_shutSafe (s : State) (r : CondRecord) : ∀ e ∈ s.removalsOf r, e.ShutSafe := by
  rw [State.removalsOf_eq]
  exact List.forall_mem_map.mpr fun _ _ h => nomatch h

/-! ### The state -/

/-- Every source has the property `P`, and what is on its way to the grant unit is safe for MASTER_SHUT. -/
structure State.Holding (P : Source → Prop) (s : State) : Prop where
  sources : ∀ i, P (s.source i)
  handed : ∀ e ∈ s.transit.toGrant, e.ShutSafe

section
variable {P : Source → Prop} {s t : State}

theorem State.Holding.of_spares (hP : ∀ {x y}, P x → y.collection = x.collection → P y) (hs : s.Holding P)
    (h : Spares s t) : t.Holding P := by
  refine ⟨fun i => hP (hs.sources i) (h.collections i), fun e he => ?_⟩
  obtain he | ⟨k, rfl⟩ := h.handed e he
  · exact hs.handed e he
  · trivial

theorem State.Holding.setSource (hs : s.Holding P) (i : SourceNo) {x : Source} (hx : P x) :
    (s.setSource i x).Holding P := by
  refine ⟨fun j => ?_, hs.handed⟩
  rw [State.source_setSource]
  split
  · exact hx
  · exact hs.sources j

theorem State.Holding.updateSource (hP : ∀ {x y}, P x → y.collection = x.collection → P y) (hs : s.Holding P)
    {f : Source → Source} (hf : ∀ x, P x → P (f x)) (i : SourceNo) : (State.updateSource f s i).Holding P :=
  (hs.setSource i (hf _ (hs.sources i))).of_spares hP (State.recompute_spares false _ i)

theorem State.Holding.updateSources (hP : ∀ {x y}, P x → y.collection = x.collection → P y) (hs : s.Holding P)
    {f : Source → Source} (hf : ∀ x, P x → P (f x)) (l : List SourceNo) :
    (l.foldl (State.updateSource f) s).Holding P :=
  List.foldlRecOn l _ hs fun _ ht i _ => ht.updateSource hP hf i

/-- The grant unit takes the oldest event it was handed. -/
theorem State.Holding.dropGrant (hs : s.Holding P) {e : GrantEvent} {rest : List GrantEvent}
    (h : s.transit.toGrant = e :: rest) : State.Holding P { s with transit := { s.transit with toGrant := rest } } :=
  ⟨hs.sources, fun _ he => hs.handed _ (h ▸ List.mem_cons_of_mem _ he)⟩

theorem State.Holding.setQueue (hs : s.Holding P) (q : List MapItem) : (s.setQueue q).Holding P :=
  ⟨hs.sources, hs.handed⟩

/-- Events are handed to the grant unit. -/
theorem State.Holding.hand (hs : s.Holding P) (hg : t.grant = s.grant) {l : List GrantEvent}
    (ht : t.transit.toGrant = s.transit.toGrant ++ l) (hl : ∀ e ∈ l, e.ShutSafe) : t.Holding P := by
  refine ⟨fun i => ?_, ?_⟩
  · have hi : t.source i = s.source i := congrArg (fun g : GrantUnit => look g.sources i) hg
    exact hi ▸ hs.sources i
  · rw [ht]
    exact List.forall_mem_append.mpr ⟨hs.handed, hl⟩

theorem State.Holding.lookUp (hs : s.Holding P) (k : Key) : (s.lookUp k).Holding P := by
  rw [State.lookUp_eq]
  refine hs.hand rfl (List.append_assoc ..) (List.forall_mem_append.mpr ⟨floorEvents_shutSafe k, ?_⟩)
  exact List.forall_mem_flatMap.mpr fun n _ => s.ordersOf_shutSafe k n

theorem State.Holding.reevaluate (hs : s.Holding P) : s.reevaluate.Holding P := by
  rw [State.reevaluate_eq]
  refine hs.hand rfl (List.append_assoc ..) (List.forall_mem_append.mpr ⟨?_, ?_⟩)
  · exact List.forall_mem_flatMap.mpr fun r _ => s.removalsOf_shutSafe r
  · exact List.forall_mem_flatMap.mpr fun r _ =>
      List.forall_mem_flatMap.mpr fun n _ => s.ordersOf_shutSafe r.key n

end

/-! ### The requests that write a collection -/

variable {s : State}

theorem State.Holding.takeSetSource (hs : s.Holding ShutHeld) (i e d : Byte) (f r p : Half) :
    (s.takeSetSource i e d f r p).1.Holding ShutHeld := by
  unfold State.takeSetSource
  split
  · next n _ _ _ =>
    refine (hs.setSource n ?_).of_spares .of_collection (State.recompute_spares false _ n)
    have hstored := hs.sources n
    split
    · exact hstored.of_collection rfl
    · exact ShutHeld.applyFloors (hstored.of_collection (by rfl)) s
  · exact hs

theorem State.Holding.commit {P : Source → Prop} (hP : ∀ {x y}, P x → y.collection = x.collection → P y)
    (hs : s.Holding P) (m : DegSet) (p : Degree → Reason) {f : State → Degree → State}
    (hf : ∀ t d, t.Holding P → (f t d).Holding P) (ok : Byte) : (s.commit m p f ok).1.Holding P := by
  have hend := hs.of_spares hP (State.endClaim_spares s .consumed)
  unfold State.commit
  dsimp only
  split
  · exact hend
  · split
    · exact List.foldlRecOn _ _ hend fun t ht d _ => hf t d ht
    · exact hend

theorem State.Holding.takeReleaseLatch (hs : s.Holding ShutHeld) (i : Byte) :
    (s.takeReleaseLatch i).1.Holding ShutHeld := by
  have hrelease : ∀ x, ShutHeld x → ShutHeld x.takeRelease := fun _ hx => hx.takeRelease
  unfold State.takeReleaseLatch
  split
  · exact hs
  · split
    · exact hs.commit .of_collection _ _ (fun _ _ ht => ht.updateSource .of_collection hrelease _) _
    · exact hs.updateSource .of_collection hrelease _

/-! ### All commands -/

theorem InHand.isResetPart_iff (h : InHand) :
    h.isResetPart = true ↔ h.frame.kind = 0x24 ∧ h.frame.payload = [] := by
  refine ⟨fun hreset => ?_, fun hreset => InHand.isResetPart_of hreset.1 hreset.2⟩
  obtain ⟨hkind, -, hpayload⟩ := checkRequest_spells (beq_iff_eq.mp hreset)
  refine ⟨(Option.some.inj hkind).symm, ?_⟩
  obtain h | ⟨_, _, _, _, _, _, _, _, _, h, -⟩ := hpayload
  · exact h
  · cases h

theorem State.shutOrdersSafe_of_empty {u : State} (h : u.transit.toGrant = []) {t : State} (ht : Spares u t) :
    t.ShutOrdersSafe := by
  have hu : u.Holding fun _ => True := ⟨fun _ => trivial, by simp [h]⟩
  exact t.shutOrdersSafe_iff.mpr (hu.of_spares (fun _ _ => trivial) ht).handed

/-- What ends the hold of MASTER_SHUT's floor order: its clear at the grant unit, or a reset of the part. -/
def State.shutEnds (s : State) (i : Instr) : Prop :=
  (i = .clearAtGrantUnit ∧ ∃ rest, s.transit.toGrant = .clear shutKey :: rest) ∨ i = .powerOnReset ∨
    (i = .replySent ∧ ∃ h r rest, s.link.hand = some h ∧ h.frame.kind = 0x24 ∧ h.frame.payload = [] ∧
      s.link.replies = r :: rest ∧ r.busy = false)

theorem exec_holds_shut (hs : s.Holding ShutHeld) (i : Instr) :
    Answers (fun t => t.Holding ShutHeld ∨ (t.ShutOrdersSafe ∧ s.shutEnds i)) (exec i s) := by
  cases hi : restricts i with
  | false => exact fun t ht => .inl (hs.of_spares .of_collection (exec_spares s i hi t ht))
  | true =>
    cases i with
    | powerOnReset =>
      have hsafe : s.powerOn.ShutOrdersSafe :=
        State.shutOrdersSafe_of_empty rfl (State.leaveReset_spares s.powerOnBlocks)
      exact .next (.inr ⟨hsafe, .inr (.inl rfl)⟩)
    | replySent =>
      intro t ht
      obtain ⟨h, -⟩ | ⟨⟨h, r, rest, hhand, hreset, hreplies, hbusy⟩, u, rfl⟩ :=
        execReplySent_stands_or_resets s t ht
      · exact .inl (hs.of_spares .of_collection h)
      · obtain ⟨hkind, hpayload⟩ := h.isResetPart_iff.mp hreset
        exact .inr ⟨State.shutOrdersSafe_of_empty rfl (State.leaveReset_spares u.softResetBlocks),
          .inr (.inr ⟨rfl, h, r, rest, hhand, hkind, hpayload, hreplies, hbusy⟩)⟩
    | lookup =>
      simp only [exec, execLookup]
      split
      · exact .next (.inl ((hs.setQueue _).lookUp _))
      all_goals exact .next (.inl hs)
    | reevaluation =>
      simp only [exec, execReevaluation]
      split
      · exact .next (.inl (hs.setQueue _).reevaluate)
      all_goals exact .next (.inl hs)
    | restrictionOrder =>
      simp only [exec, execRestrictionOrder]
      split
      · next g c p o rest h =>
        have hshut : o = shutFloor → c = .off ∧ p = .follow :=
          hs.handed (.restriction g c p o) (h ▸ List.mem_cons_self)
        exact .next (.inl ((hs.dropGrant h).updateSources .of_collection (fun _ hx => hx.takeOrder hshut) _))
      all_goals exact .next (.inl hs)
    | clearAtGrantUnit =>
      simp only [exec, execClearAtGrantUnit]
      split
      · next k rest h =>
        by_cases hk : k = shutKey
        · subst hk
          have hall : s.Holding fun _ => True := ⟨fun _ => trivial, hs.handed⟩
          exact .next (.inr ⟨(State.shutOrdersSafe_iff _).mpr
            ((hall.dropGrant h).updateSources (fun _ _ => trivial) (fun _ _ => trivial) _).handed,
            .inl ⟨rfl, rest, h⟩⟩)
        · exact .next (.inl ((hs.dropGrant h).updateSources .of_collection (fun _ hx => hx.takeClear hk) _))
      all_goals exact .next (.inl hs)
    | removalOrder =>
      simp only [exec, execRemovalOrder]
      split
      · next o rest h =>
        have hentry : o.entry ≠ none := hs.handed (.removal o) (h ▸ List.mem_cons_self)
        exact .next (.inl ((hs.dropGrant h).updateSources .of_collection (fun _ hx => hx.takeRemoval hentry) _))
      all_goals exact .next (.inl hs)
    | setSource i e d f r p =>
      exact .next (.inl ((hs.takeSetSource i e d f r p).of_spares .of_collection (State.answer_spares _ _ _)))
    | releaseLatch i =>
      exact .next (.inl ((hs.takeReleaseLatch i).of_spares .of_collection (State.answer_spares _ _ _)))
    | _ => cases hi

/-- A source that MASTER_SHUT holds is granted nothing where the grants are safe (R75). -/
theorem State.GrantsSafe.none (hs : s.GrantsSafe) {j : SourceNo} (h : ShutHeld (s.source j)) :
    (s.source j).grant = none := (hs j).trans (h.grantOf _)

/-- Settles O33: the order holds every source it meets (`shutHeld_takeOrder`), every command but the three keeps the
hold (`exec_holds_shut`), and every command keeps the grants at what the hold leaves (`exec_keepsPorts`). -/
theorem everyGrantIsOffUntilTheClearOfMasterShut : Obligations.EveryGrantIsOffUntilTheClearOfMasterShut := by
  refine ⟨fun rest s h => ⟨_, execRestrictionOrder_taken h, fun j => ?_⟩, fun i s t hoff horders ht => ?_⟩
  · rw [(State.restrict_changed _ .every .off .follow shutFloor).sources j]
    have hheld := shutHeld_takeOrder (s.source j)
    exact ⟨hheld.of_collection (Source.regranted_collection _ _),
      (Source.regranted_grant _ _).trans (hheld.grantOf _)⟩
  · have hs : s.Holding ShutHeld := ⟨fun j => (hoff j).1, s.shutOrdersSafe_iff.mp horders⟩
    have hgrants : s.GrantsSafe := fun j => (hoff j).2.trans ((hoff j).1.grantOf _).symm
    obtain hheld | ⟨hsafe, hends⟩ := exec_holds_shut hs i t ht
    · exact ⟨t.shutOrdersSafe_iff.mpr hheld.handed, .inl fun j =>
        ⟨hheld.sources j, ((exec_keepsPorts s i t ht).grants hgrants).none (hheld.sources j)⟩⟩
    · exact ⟨hsafe, .inr hends⟩

end Sys2Proof.Machine
end

section
/-! O37. SET_SOURCE (R62, R63): what the floor orders of the raised conditions make of a collection (R66, R67), by
induction on the keys they come from, and the exposure and setpoints that are stored. -/

namespace Sys2Proof.Machine

/-! ### What an order leaves of a collection -/

/-- A collection holds no record of an origin. -/
def Source.Lacks (x : Source) (o : Origin) : Prop := ∀ z ∈ x.restrictions, z.origin ≠ o

/-- A collection stores an order of an origin: in the place of a record, or below the capacity (R66). -/
def Source.HasRoom (x : Source) (o : Origin) : Prop :=
  (∃ z ∈ x.restrictions, z.origin = o) ∨ x.restrictions.length < 8

theorem Source.not_hasRoom (x : Source) (o : Origin) : ¬x.HasRoom o ↔ x.Lacks o ∧ 8 ≤ x.restrictions.length := by
  rw [Source.HasRoom, not_or, not_lt]
  exact and_congr_left' (by simp [Source.Lacks])

section
variable {x : Source} {o : Origin} (c : Ceiling) (p : Persistence)

/-- An order that meets a full collection (R67). -/
theorem Source.takeOrder_full (h : ¬x.HasRoom o) : x.takeOrder c p o =
    { x with overflow := true, lostShut := x.lostShut || decide (o = shutFloor) } := by
  obtain ⟨hnew, hfull⟩ := (x.not_hasRoom o).mp h
  rw [Source.takeOrder_new hnew, if_neg (not_lt.mpr hfull)]

/-- An order that is stored: the records of its origin are its own, or it comes last (R66). -/
theorem Source.takeOrder_stored (h : x.HasRoom o) : ∃ l, x.takeOrder c p o = { x with restrictions := l } ∧
    (∀ z, z ∈ l ↔ (z ∈ x.restrictions ∧ z.origin ≠ o) ∨ z = orderRecord c p o) ∧
    (x.restrictions.map Restriction.origin <+: l.map Restriction.origin) ∧
    l.length ≤ max 8 x.restrictions.length := by
  by_cases hold : ∃ r ∈ x.restrictions, r.origin = o
  · refine ⟨_, Source.takeOrder_replaces hold c p, fun z => ⟨fun hz => ?_, ?_⟩, ?_, by simp⟩
    · obtain ⟨r, hr, rfl⟩ := List.mem_map.mp hz
      by_cases ho : r.origin = o
      · exact .inr ((if_pos ho).trans (ho ▸ rfl))
      · rw [show r.replaced c p o = r from if_neg ho]
        exact .inl ⟨hr, ho⟩
    · rintro (⟨hz, ho⟩ | rfl)
      · exact List.mem_map.mpr ⟨z, hz, if_neg ho⟩
      · obtain ⟨r, hr, ho⟩ := hold
        exact List.mem_map.mpr ⟨r, hr, (if_pos ho).trans (ho ▸ rfl)⟩
    · rw [List.map_map, funext (Restriction.replaced_origin c p o) (f := Restriction.origin ∘ _)]
  · have hnew : x.Lacks o := by simpa [Source.Lacks] using hold
    have hlt : x.restrictions.length < 8 := h.resolve_left hold
    refine ⟨x.restrictions ++ [orderRecord c p o], (Source.takeOrder_new hnew c p).trans (if_pos hlt), fun z => ?_,
      ?_, ?_⟩
    · rw [List.mem_append, List.mem_singleton, and_iff_left_of_imp (hnew z)]
    · rw [List.map_append]
      exact List.prefix_append _ _
    · rw [List.length_append, List.length_singleton]
      exact le_max_of_le_left hlt

theorem Source.mem_takeOrder (z : Restriction) : z ∈ (x.takeOrder c p o).restrictions ↔
    (z ∈ x.restrictions ∧ z.origin ≠ o) ∨ (z = orderRecord c p o ∧ x.HasRoom o) := by
  by_cases hroom : x.HasRoom o
  · obtain ⟨l, htaken, hmem, -, -⟩ := Source.takeOrder_stored c p hroom
    rw [htaken, and_iff_left hroom]
    exact hmem z
  · rw [Source.takeOrder_full c p hroom]
    simpa [hroom] using (((x.not_hasRoom o).mp hroom).1 z)

/-- An order moves no record from its place, and keeps a collection within its capacity (R65). -/
theorem Source.origins_takeOrder :
    (x.restrictions.map Restriction.origin <+: (x.takeOrder c p o).restrictions.map Restriction.origin) ∧
      (x.takeOrder c p o).restrictions.length ≤ max 8 x.restrictions.length := by
  by_cases hroom : x.HasRoom o
  · obtain ⟨l, htaken, -, horigins, hlength⟩ := Source.takeOrder_stored c p hroom
    rw [htaken]
    exact ⟨horigins, hlength⟩
  · rw [Source.takeOrder_full c p hroom]
    exact ⟨List.prefix_rfl, le_max_right ..⟩

theorem Source.marks_takeOrder :
    ((x.takeOrder c p o).overflow = true ↔ x.overflow = true ∨ ¬x.HasRoom o) ∧
      ((x.takeOrder c p o).lostShut = true ↔ x.lostShut = true ∨ (o = shutFloor ∧ ¬x.HasRoom o)) := by
  by_cases hroom : x.HasRoom o
  · obtain ⟨l, htaken, -⟩ := Source.takeOrder_stored c p hroom
    rw [htaken]
    simp [hroom]
  · rw [Source.takeOrder_full c p hroom]
    simp [hroom]

theorem Source.lacks_takeOrder (o' : Origin) :
    (x.takeOrder c p o).Lacks o' ↔ x.Lacks o' ∧ (o' = o → ¬x.HasRoom o) := by
  unfold Source.Lacks
  simp only [Source.mem_takeOrder]
  constructor
  · intro h
    have hroom : o' = o → ¬x.HasRoom o := fun ho hroom => h _ (.inr ⟨rfl, hroom⟩) (by exact ho.symm)
    refine ⟨fun z hz hzo => ?_, hroom⟩
    by_cases ho : o' = o
    · exact ((x.not_hasRoom o).mp (hroom ho)).1 z hz (hzo.trans ho)
    · exact h z (.inl ⟨hz, fun e => ho (hzo.symm.trans e)⟩) hzo
  · rintro ⟨h, hroom⟩ z (⟨hz, -⟩ | ⟨rfl, hr⟩) hzo
    · exact h z hz hzo
    · exact hroom (Eq.symm hzo) hr

end

/-! ### The floors of several keys, one after the other (R63) -/

/-- The origin of a key's floor order (R54). -/
def floorOrigin (k : Key) : Origin := { key := k, entry := none }

/-- The record of a key's floor order (R52, R54). -/
def floorRecord (k : Key) (c : Ceiling) : Restriction := orderRecord c .follow (floorOrigin k)

/-- A floor of ceiling `c` is due from key `k` to the exposure `e`. -/
def FloorDue (e : Exposure) (ks : List Key) (k : Key) (c : Ceiling) : Prop := k ∈ ks ∧ floorReaches k e = some c

/-- Source `x` with the collection of `y`. -/
def Source.withCollection (x y : Source) : Source :=
  { x with restrictions := y.restrictions, overflow := y.overflow, lostShut := y.lostShut }

theorem Source.takeOrder_frame (x : Source) (c : Ceiling) (p : Persistence) (o : Origin) :
    x.takeOrder c p o = x.withCollection (x.takeOrder c p o) := by
  by_cases hroom : x.HasRoom o
  · obtain ⟨l, htaken, -⟩ := Source.takeOrder_stored c p hroom
    rw [htaken, Source.withCollection]
  · rw [Source.takeOrder_full c p hroom, Source.withCollection]

theorem floorOrigin_inj {k k' : Key} : floorOrigin k = floorOrigin k' ↔ k = k' :=
  ⟨congrArg Origin.key, congrArg floorOrigin⟩

/-- What the floors of the keys `ks` that address the exposure `e` make of source `x`: source `y`. -/
structure FloorsTaken (e : Exposure) (ks : List Key) (x y : Source) : Prop where
  frame : y = x.withCollection y
  kept : ∀ z ∈ x.restrictions, (z ∈ y.restrictions ∧ ∀ k c, FloorDue e ks k c → z.origin ≠ floorOrigin k) ∨
    ∃ k c, z.origin = floorOrigin k ∧ FloorDue e ks k c ∧ floorRecord k c ∈ y.restrictions
  come : ∀ z ∈ y.restrictions, z ∈ x.restrictions ∨ ∃ k c, FloorDue e ks k c ∧ z = floorRecord k c
  length : y.restrictions.length ≤ max 8 x.restrictions.length
  origins : x.restrictions.map Restriction.origin <+: y.restrictions.map Restriction.origin
  taken : ∀ k c, FloorDue e ks k c →
    floorRecord k c ∈ y.restrictions ∨ (y.Lacks (floorOrigin k) ∧ 8 ≤ y.restrictions.length)
  overflow : y.overflow = true ↔ x.overflow = true ∨ ∃ k c, FloorDue e ks k c ∧ y.Lacks (floorOrigin k)
  lostShut : y.lostShut = true ↔
    x.lostShut = true ∨ ∃ c, FloorDue e ks shutKey c ∧ y.Lacks (floorOrigin shutKey)

theorem floorsTaken_nil (e : Exposure) (x : Source) : FloorsTaken e [] x x where
  frame := rfl
  kept z hz := .inl ⟨hz, fun _ _ h => nomatch h.1⟩
  come z hz := .inl hz
  length := le_max_right ..
  origins := List.prefix_rfl
  taken _ _ h := nomatch h.1
  overflow := by simp [FloorDue]
  lostShut := by simp [FloorDue]

section
variable {e : Exposure} {ks : List Key} {k : Key} {x y : Source}

theorem floorDue_append_of_none (h : floorReaches k e = none) (k' : Key) (c : Ceiling) :
    FloorDue e (ks ++ [k]) k' c ↔ FloorDue e ks k' c := by
  refine and_congr_left fun hr => ?_
  have hne : k' ≠ k := by
    rintro rfl
    cases h.symm.trans hr
  simp [hne]

theorem floorDue_append {c : Ceiling} (h : floorReaches k e = some c) (k' : Key) (c' : Ceiling) :
    FloorDue e (ks ++ [k]) k' c' ↔ FloorDue e ks k' c' ∨ (k' = k ∧ c' = c) := by
  unfold FloorDue
  rw [List.mem_append, List.mem_singleton, or_and_right]
  refine or_congr_right (and_congr_right ?_)
  rintro rfl
  rw [h, Option.some.injEq, eq_comm]

/-- A key whose floor does not address the exposure adds nothing. -/
theorem FloorsTaken.append_none (hy : FloorsTaken e ks x y) (h : floorReaches k e = none) :
    FloorsTaken e (ks ++ [k]) x y := by
  obtain ⟨hframe, hkept, hcome, hlength, horigins, htaken, hoverflow, hlost⟩ := hy
  constructor <;> simpa only [floorDue_append_of_none h]

/-- The floors that a collection has missed after one more: those it missed before, and this one where it has no
room. -/
theorem FloorsTaken.missed_append (hy : FloorsTaken e ks x y) {c : Ceiling} (h : floorReaches k e = some c)
    (k' : Key) :
    (∃ c', FloorDue e (ks ++ [k]) k' c' ∧ (y.takeOrder c .follow (floorOrigin k)).Lacks (floorOrigin k')) ↔
      (∃ c', FloorDue e ks k' c' ∧ y.Lacks (floorOrigin k')) ∨ (k' = k ∧ ¬y.HasRoom (floorOrigin k)) := by
  simp only [floorDue_append h, Source.lacks_takeOrder, Source.not_hasRoom]
  constructor
  · rintro ⟨c', hdue | ⟨rfl, rfl⟩, hlacks, hroom⟩
    · exact .inl ⟨c', hdue, hlacks⟩
    · exact .inr ⟨rfl, hroom rfl⟩
  · rintro (⟨c', hdue, hlacks⟩ | ⟨rfl, hlacks, hfull⟩)
    · have hfull : 8 ≤ y.restrictions.length :=
        ((hy.taken k' c' hdue).resolve_left fun hmem => hlacks _ hmem rfl).2
      exact ⟨c', .inl hdue, hlacks, fun ho => ⟨ho ▸ hlacks, hfull⟩⟩
    · exact ⟨c, .inr ⟨rfl, rfl⟩, hlacks, fun _ => ⟨hlacks, hfull⟩⟩

/-- One more floor that addresses the exposure. -/
theorem FloorsTaken.append_some (hy : FloorsTaken e ks x y) {c : Ceiling} (h : floorReaches k e = some c) :
    FloorsTaken e (ks ++ [k]) x (y.takeOrder c .follow (floorOrigin k)) where
  frame := by
    have hframe := congrArg (Source.withCollection · (y.takeOrder c .follow (floorOrigin k))) hy.frame
    exact (y.takeOrder_frame ..).trans hframe
  kept z hz := by
    have hnew : FloorDue e (ks ++ [k]) k c := (floorDue_append h ..).mpr (.inr ⟨rfl, rfl⟩)
    have hrecord : (∃ r ∈ y.restrictions, r.origin = floorOrigin k) →
        floorRecord k c ∈ (y.takeOrder c .follow (floorOrigin k)).restrictions := fun hr =>
      (Source.mem_takeOrder ..).mpr (.inr ⟨rfl, .inl hr⟩)
    have hother : ∀ r ∈ y.restrictions, r.origin ≠ floorOrigin k →
        r ∈ (y.takeOrder c .follow (floorOrigin k)).restrictions := fun r hr ho =>
      (Source.mem_takeOrder ..).mpr (.inl ⟨hr, ho⟩)
    obtain ⟨hzy, hnone⟩ | ⟨k', c', ho', hdue, hmem⟩ := hy.kept z hz
    · by_cases ho : z.origin = floorOrigin k
      · exact .inr ⟨k, c, ho, hnew, hrecord ⟨z, hzy, ho⟩⟩
      · refine .inl ⟨hother z hzy ho, fun k' c' hdue => ?_⟩
        obtain hdue | ⟨rfl, -⟩ := (floorDue_append h ..).mp hdue
        · exact hnone k' c' hdue
        · exact ho
    · by_cases hk : k' = k
      · subst hk
        exact .inr ⟨k', c, ho', hnew, hrecord ⟨_, hmem, rfl⟩⟩
      · exact .inr ⟨k', c', ho', (floorDue_append h ..).mpr (.inl hdue), hother _ hmem (mt floorOrigin_inj.mp hk)⟩
  come z hz := by
    obtain ⟨hz, -⟩ | ⟨rfl, -⟩ := (Source.mem_takeOrder ..).mp hz
    · exact (hy.come z hz).imp_right fun ⟨k', c', hdue, hz⟩ => ⟨k', c', (floorDue_append h ..).mpr (.inl hdue), hz⟩
    · exact .inr ⟨k, c, (floorDue_append h ..).mpr (.inr ⟨rfl, rfl⟩), rfl⟩
  length := (Source.origins_takeOrder ..).2.trans (max_le (le_max_left ..) hy.length)
  origins := hy.origins.trans (Source.origins_takeOrder ..).1
  taken k' c' hdue := by
    have hlength : y.restrictions.length ≤ (y.takeOrder c .follow (floorOrigin k)).restrictions.length := by
      simpa using (Source.origins_takeOrder (x := y) (o := floorOrigin k) c .follow).1.length_le
    by_cases hk : k' = k
    · subst hk
      cases hdue.2.symm.trans h
      by_cases hroom : y.HasRoom (floorOrigin k')
      · exact .inl ((Source.mem_takeOrder ..).mpr (.inr ⟨rfl, hroom⟩))
      · obtain ⟨hlacks, hfull⟩ := (y.not_hasRoom _).mp hroom
        exact .inr ⟨(Source.lacks_takeOrder ..).mpr ⟨hlacks, fun _ => hroom⟩, hfull.trans hlength⟩
    · have ho : floorOrigin k' ≠ floorOrigin k := mt floorOrigin_inj.mp hk
      refine (hy.taken k' c' (((floorDue_append h ..).mp hdue).resolve_right fun hnew => hk hnew.1)).imp ?_ ?_
      · exact fun hmem => (Source.mem_takeOrder ..).mpr (.inl ⟨hmem, ho⟩)
      · exact fun ⟨hlacks, hfull⟩ =>
          ⟨(Source.lacks_takeOrder ..).mpr ⟨hlacks, fun e => absurd e ho⟩, hfull.trans hlength⟩
  overflow := by
    rw [(Source.marks_takeOrder ..).1, hy.overflow, exists_congr (hy.missed_append h)]
    simp [exists_or, or_assoc]
  lostShut := by
    have hshut : floorOrigin k = shutFloor ↔ shutKey = k := floorOrigin_inj.trans eq_comm
    rw [(Source.marks_takeOrder ..).2, hy.lostShut, hy.missed_append h, hshut, or_assoc]

end

theorem Source.takeFloor_of_none {x : Source} {k : Key} (h : floorReaches k x.exposure = none) : x.takeFloor k = x := by
  rw [Source.takeFloor, h]

theorem Source.takeFloor_of_some {x : Source} {k : Key} {c : Ceiling} (h : floorReaches k x.exposure = some c) :
    x.takeFloor k = x.takeOrder c .follow (floorOrigin k) := by
  rw [Source.takeFloor, h, floorOrigin]

theorem floorsTaken_foldl (x : Source) (ks : List Key) :
    FloorsTaken x.exposure ks x (ks.foldl Source.takeFloor x) := by
  induction ks using List.reverseRecOn with
  | nil => exact floorsTaken_nil ..
  | append_singleton ks k ih =>
    have hexp : (ks.foldl Source.takeFloor x).exposure = x.exposure := by
      rw [ih.frame, Source.withCollection]
    rw [List.foldl_append, List.foldl_cons, List.foldl_nil]
    cases h : floorReaches k x.exposure with
    | none =>
      rw [Source.takeFloor_of_none (hexp ▸ h)]
      exact ih.append_none h
    | some c =>
      rw [Source.takeFloor_of_some (hexp ▸ h)]
      exact ih.append_some h

/-! ### What SET_SOURCE stores (R62) -/

theorem exposure?_eq_none {e d : Byte} (h : 4 ≤ e.toNat ∨ (e.toNat < 2 ∧ 4 ≤ d.toNat)) : exposure? e d = none := by
  unfold exposure?
  obtain he | ⟨he, hd⟩ := h
  · rw [if_neg, if_neg, if_neg, if_neg] <;> (rintro rfl; contradiction)
  · have hlow : e = 0 ∨ e = 1 := by bv_omega
    rw [index?_eq_none hd]
    obtain rfl | rfl := hlow <;> rfl

theorem State.takeSetSource_unexposed (s : State) (a : Byte) {e d : Byte} (f r p : Half) (h : exposure? e d = none) :
    s.takeSetSource a e d f r p = (s, [codeBadValue]) := by
  rw [State.takeSetSource, h]
  split
  · next heq => cases heq
  · rfl

section
variable (s : State) (i : SourceNo) (x : Exposure) (f r p : Half)

/-- Source `i` with an exposure and the setpoints clamped (R62 steps 1 and 2). -/
def State.configured : Source := { s.source i with
  exposure := x
  full := clampSetpoint f.toInt
  reduced := clampSetpoint r.toInt
  probe := s.probeLimitFor x (clampSetpoint p.toInt) }

/-- The keys whose floors are applied: those of the raised conditions after a change of exposure, else none (R63). -/
def State.floorKeys : List Key := if (s.source i).exposure = x then [] else s.cond.active.map CondRecord.key

/-- Source `i` as SET_SOURCE leaves it. -/
def State.reconfigured : Source := (s.floorKeys i x).foldl Source.takeFloor (s.configured i x f r p)

theorem State.reconfigured_floorsTaken :
    FloorsTaken x (s.floorKeys i x) (s.configured i x f r p) (s.reconfigured i x f r p) :=
  floorsTaken_foldl (s.configured i x f r p) _

theorem State.reconfigured_eq : (if (s.source i).exposure = x then s.configured i x f r p
    else s.applyFloors (s.configured i x f r p)) = s.reconfigured i x f r p := by
  rw [State.reconfigured, State.floorKeys, State.applyFloors_eq]
  split <;> rfl

theorem State.takeSetSource_stored {e d : Byte} (h : exposure? e d = some x) :
    s.takeSetSource (BitVec.ofNat 8 i.val) e d f r p =
      ((s.setSource i (s.reconfigured i x f r p)).recompute false i,
        [okOrClamped ((s.configured i x f r p).full != f.toInt || (s.configured i x f r p).reduced != r.toInt ||
          (s.configured i x f r p).probe != p.toInt)]) := by
  rw [← State.reconfigured_eq]
  simp only [State.takeSetSource, index?_ofNat (show 16 ≤ 256 by decide), h, State.configured]

theorem floorReaches_eq_some (k : Key) (c : Ceiling) : floorReaches k x = some c ↔ x.degree ≠ none ∧
    (floorEvents k = [.restriction (.exposure x) c .follow { key := k, entry := none }] ∨
      floorEvents k = [.restriction .every c .follow { key := k, entry := none }]) := by
  unfold floorReaches floorEvents
  by_cases hd : x.degree = none
  · simp [hd]
  · rw [if_neg hd, and_iff_right hd]
    rcases floorOrder k with _ | ⟨g, c'⟩
    · simp
    · cases g <;> simp

/-- The floors due to a source: of a change of exposure only, and of the keys of the raised conditions (R63). -/
theorem State.floorDue_iff (k : Key) (c : Ceiling) : FloorDue x (s.floorKeys i x) k c ↔
    (s.source i).exposure ≠ x ∧ x.degree ≠ none ∧ (∃ z ∈ s.cond.active, z.key = k) ∧
      (floorEvents k = [.restriction (.exposure x) c .follow { key := k, entry := none }] ∨
        floorEvents k = [.restriction .every c .follow { key := k, entry := none }]) := by
  rw [FloorDue, State.floorKeys, floorReaches_eq_some]
  by_cases h : (s.source i).exposure = x
  · simp [h]
  · rw [if_neg h, List.mem_map, and_iff_right h, and_left_comm]

end

/-- Settles O37: the refusals by `exposure?_eq_none`; what is stored by `State.takeSetSource_stored`, and the collection
by `floorsTaken_foldl`. -/
theorem aSourceIsConfigured : Obligations.ASourceIsConfigured := by
  intro a e d f r p s
  refine ⟨fun h => serve_refused _ ?_, ?_⟩
  · obtain ha | he := h
    · exact s.takeSetSource_refused _ _ _ _ _ (index?_eq_none ha)
    · exact s.takeSetSource_unexposed _ _ _ _ (exposure?_eq_none he)
  · rintro i x rfl hx
    have hexposure : exposure? e d = some x := by
      cases x with
      | out n | inn n =>
        obtain ⟨rfl, rfl⟩ := hx
        exact congrArg (Option.map _) (index?_ofNat (by decide) n)
      | enclosed | unused => cases hx; rfl
    have htaken := s.reconfigured_floorsTaken i x f r p
    generalize hy : s.reconfigured i x f r p = y at htaken
    have henable : y.enable = (s.source i).enable := by
      rw [htaken.frame, Source.withCollection, State.configured]
    have hdue := s.floorDue_iff i x
    refine ⟨_, y, _, serve_answer _ ((s.takeSetSource_stored i x f r p hexposure).trans (by rw [hy])),
      s.setSource_recompute_changed i henable, ?_, ?_, ?_, ?_, htaken.length, ?_, ?_, ?_, ?_⟩
    · cases x <;> exact htaken.frame
    · refine okOrClamped_eq_ite ?_
      rw [htaken.frame]
      simp [Source.withCollection, or_assoc, imp_iff_not_or]
    · intro z hz
      obtain ⟨hmem, hnone⟩ | ⟨k, c, ho, hk, hmem⟩ := htaken.kept z hz
      · refine .inl ⟨hmem, fun hentry c hc => hnone _ c ((hdue _ c).mpr hc) ?_⟩
        exact congrArg (Origin.mk z.origin.key) hentry
      · have hkey : z.origin.key = k := congrArg Origin.key ho
        exact .inr ⟨c, congrArg Origin.entry ho, hkey ▸ (hdue k c).mp hk, hkey ▸ hmem⟩
    · exact fun z hz => (htaken.come z hz).imp_right fun ⟨k, c, hk, hz⟩ => ⟨k, c, (hdue k c).mp hk, hz⟩
    · have hplaces := (List.prefix_iff_eq_take.mp htaken.origins).symm
      rwa [List.length_map] at hplaces
    · exact fun k c hk => htaken.taken k c ((hdue k c).mpr hk)
    · refine htaken.overflow.trans (or_congr_right ?_)
      exact exists_congr fun k => exists_congr fun c => and_congr_left' (hdue k c)
    · refine htaken.lostShut.trans (or_congr_right ?_)
      exact exists_congr fun c => and_congr_left' (hdue shutKey c)

end Sys2Proof.Machine
end

section
/-! O43. The probe timer (R115, R116), the request timer (R107) and the ramp step (R118): the record that each expiry
leaves, from the entry into the next state (R83, R84). -/

namespace Sys2Proof.Machine

variable (s : State) {r : Span} (d : Degree)

/-- The record of a probe that its timer ends, but for the state entered (R84, R116). -/
def Span.probeEnded (r : Span) : Span := { r with
  cause := .probeTimeout, settle := none, interval := some (r.config.restartInterval * 1000), probeTimer := none,
  rampTimer := none, origin := none, changes := r.changes + 1 }

theorem Span.enter_held_of_probe (h : r.state = .probe) (c : SpanCause) :
    r.enter .held c = { r.probeEnded with state := .held, cause := c, interval := none, request := none } := by
  simp [Span.enter, Span.probeEnded, h, keepIf]

theorem awaitRecord_of_probe (h : r.state = .probe) (n : Nat) :
    awaitRecord r .probeTimeout n = { r.probeEnded with state := .await, failed := n } := by
  simp [awaitRecord, Span.probeEnded, h, SpanConfig.intervalMs]

theorem Span.enter_lit_of_ramp (h : r.state = .ramp) (c : SpanCause) : r.enter .lit c = { r with
    state := .lit, cause := c, failed := 0, remaining := 0, settle := none, interval := none, probeTimer := none,
    rampTimer := none, request := none, changes := r.changes + 1 } := by
  simp [Span.enter, h, keepIf]

/-! ### The probe timer -/

theorem execProbeTimerExpiry_next : ∃ t, exec (.probeTimerExpiry d) s = .next t := by
  simp only [exec, execProbeTimerExpiry]
  split
  · split <;> exact ⟨_, rfl⟩
  · exact ⟨_, rfl⟩

section
variable {s} {d}

theorem execProbeTimerExpiry_manualFromHeld (ht : (s.span d).probeTimer = some 0) (hs : (s.span d).state = .probe)
    (ho : (s.span d).origin = some .manualFromHeld) :
    exec (.probeTimerExpiry d) s = .next (s.moveSpan d .held .probeTimeout id none) := by
  simp only [exec, execProbeTimerExpiry, ht, hs, ho, and_self, if_true]

theorem execProbeTimerExpiry_manualFromAwait (ht : (s.span d).probeTimer = some 0) (hs : (s.span d).state = .probe)
    (ho : (s.span d).origin = some .manualFromAwait) :
    exec (.probeTimerExpiry d) s = .next (s.enterAwait d .probeTimeout id) := by
  simp only [exec, execProbeTimerExpiry, ht, hs, ho, and_self, if_true]

theorem execProbeTimerExpiry_automatic (ht : (s.span d).probeTimer = some 0) (hs : (s.span d).state = .probe)
    (ho : (s.span d).origin = some .automatic) :
    exec (.probeTimerExpiry d) s = .next (s.failProbe d) := by
  simp only [exec, execProbeTimerExpiry, ht, hs, ho, and_self, if_true]

end

theorem State.failProbe_exhausted (hs : (s.span d).state = .probe)
    (h : (s.span d).config.probeLimit ≤ min 15 ((s.span d).failed + 1)) : SpanChange s d
      { (s.span d).probeEnded with
        state := .held, cause := .exhausted, failed := min 15 ((s.span d).failed + 1), interval := none,
        request := none } none (s.failProbe d) := by
  have hmove := s.moveSpan_change d .held .exhausted (fun r => { r with failed := countUp (s.span d).failed }) none
    rfl rfl
  rw [Span.enter_held_of_probe hs] at hmove
  unfold State.failProbe
  dsimp only
  rwa [if_pos (show (s.span d).config.probeLimit ≤ countUp (s.span d).failed from h)]

theorem State.failProbe_awaits (hs : (s.span d).state = .probe)
    (h : min 15 ((s.span d).failed + 1) < (s.span d).config.probeLimit) : AwaitEntered s d
      { (s.span d).probeEnded with state := .await, failed := min 15 ((s.span d).failed + 1) } (s.failProbe d) := by
  have henter := s.enterAwait_entered d .probeTimeout (countUp (s.span d).failed) (.inr hs)
  rw [awaitRecord_of_probe hs] at henter
  unfold State.failProbe
  dsimp only
  rwa [if_neg (show ¬(s.span d).config.probeLimit ≤ countUp (s.span d).failed from not_le.mpr h)]

/-! ### The ramp step -/

theorem State.stepRamp_done (hs : (s.span d).state = .ramp) (h : (s.span d).remaining ≤ (s.span d).config.rampStep) :
    SpanChange s d { s.span d with
      state := .lit, cause := .rampDone, failed := 0, remaining := 0, settle := none, interval := none,
      probeTimer := none, rampTimer := none, request := none, changes := (s.span d).changes + 1 } none
      (s.stepRamp d) := by
  have hmove := s.moveSpan_change d .lit .rampDone id none rfl rfl
  rw [id, Span.enter_lit_of_ramp hs] at hmove
  unfold State.stepRamp
  dsimp only
  rwa [if_pos (Nat.sub_eq_zero_of_le h)]

theorem State.stepRamp_goes_on {u : State} (h : (s.span d).config.rampStep < (s.span d).remaining)
    (hu : u = s.setSpan d { s.span d with
      remaining := (s.span d).remaining - (s.span d).config.rampStep
      rampTimer := some (s.span d).config.rampInterval }) :
    SourcesChanged u (fun i => if (s.source i).exposure.degree = some d then
      (s.source i).regranted u.ctrl.spans else s.source i) (s.stepRamp d) := by
  have hleft : (s.span d).remaining - (s.span d).config.rampStep ≠ 0 := Nat.sub_ne_zero_of_lt h
  have hstep : s.stepRamp d = u.recomputeAll false (u.exposedOn d) := by
    unfold State.stepRamp
    dsimp only
    rw [if_neg hleft, hu]
  have hchanged := u.recomputeAll_changed fun i => (u.source i).exposure.degree == some d
  have hsources : ∀ i, u.source i = s.source i := fun i => by rw [hu, State.source_setSpan]
  rw [hstep]
  refine ⟨fun i => (hchanged.sources i).trans ?_, hchanged.frame⟩
  simp [hsources]

/-- Settles O43: what does not expire does nothing; the probe timer by the origin of the probe, and the ramp step by
what is left of the ramp. -/
theorem probeRequestAndRampTimersExpire : Obligations.ProbeRequestAndRampTimersExpire := by
  intro d s
  refine ⟨fun h => ?_, fun h => ?_, fun h => ?_, fun ht hs => ?_, fun h => ?_, fun ht hs hle => ?_,
    fun ht hs hlt => ?_⟩
  · exact if_neg h
  · exact if_pos h
  · exact if_neg fun hexp => h.elim (· hexp.1) (· hexp.2)
  · obtain ⟨t, hnext⟩ := execProbeTimerExpiry_next s d
    refine ⟨t, hnext, fun ho => ?_, fun ho => ?_, fun ho => ?_⟩
    · cases hnext.symm.trans (execProbeTimerExpiry_manualFromHeld ht hs ho)
      have hmove := s.moveSpan_change d .held .probeTimeout id none rfl rfl
      rwa [id, Span.enter_held_of_probe hs] at hmove
    · cases hnext.symm.trans (execProbeTimerExpiry_manualFromAwait ht hs ho)
      have henter := s.enterAwait_kept d .probeTimeout (.inr hs)
      rwa [awaitRecord_of_probe hs] at henter
    · cases hnext.symm.trans (execProbeTimerExpiry_automatic ht hs ho)
      exact ⟨s.failProbe_awaits d hs, s.failProbe_exhausted d hs⟩
  · exact if_neg fun hexp => h.elim (· hexp.1) (· hexp.2)
  · exact ⟨_, if_pos ⟨ht, hs⟩, s.stepRamp_done d hs hle⟩
  · exact ⟨_, _, if_pos ⟨ht, hs⟩, rfl, s.stepRamp_goes_on d hlt rfl⟩

end Sys2Proof.Machine
end

section
/-! O23. The replies of GET_SOURCE, GET_SPAN, GET_LINE and GET_PROFILE (R78, R102, R121, R133, R138), field by field as
R185 and R187 lay them out. -/

namespace Sys2Proof.Machine

/-! ### Fields -/

theorem powerBytes_eq (v : Option Int) :
    powerBytes v = (v.map fun x => halfBytes (BitVec.ofInt 16 x)).getD [0x80, 0x00] := by
  cases v <;> rfl

theorem farFieldBytes_eq (w : Option FarWord) : farFieldBytes w =
    (w.map fun x => [BitVec.ofNat 8 x.degree.val, x.code.setWidth 8, x.flags.setWidth 8]).getD [0xFF, 0xFF, 0xFF] := by
  cases w <;> rfl

theorem farOrdinalBytes_eq (w : Option FarWord) :
    farOrdinalBytes w = (w.map fun x => halfBytes (x.ordinal.setWidth 16)).getD [0xFF, 0xFF] := by
  cases w <;> rfl

theorem restrictionBytes_eq : restrictionBytes = fun r : Restriction => keyBytes r.origin.key ++
    [(r.origin.entry.map fun e => BitVec.ofNat 8 e.val).getD 0xFF, ceilingByte r.ceiling,
      persistenceByte r.persistence, boolByte r.latched] :=
  funext fun r => by rw [restrictionBytes, optByte_eq]

/-- The condition view as a sum of its bits (R185). -/
theorem viewByte_eq (r : Span) : viewByte r =
    BitVec.ofNat 8 (r.seenDark.toNat + 2 * r.seenShut.toNat + 4 * r.seenMiswire.toNat) := by
  unfold viewByte
  cases r.seenDark <;> cases r.seenShut <;> cases r.seenMiswire <;> rfl

/-- The raised states as a sum of their bits (R187). -/
theorem raisedByte_eq (r : Line) : raisedByte r =
    BitVec.ofNat 8 (r.lost.toNat + 2 * r.shut.toNat + 4 * r.lockout.toNat + 8 * r.miswire.toNat) := by
  unfold raisedByte
  cases r.lost <;> cases r.shut <;> cases r.lockout <;> cases r.miswire <;> rfl

/-- Five off reasons as a byte: the sum of their bits. -/
theorem reasonsByte_eq (restriction span hold overflow unused : Bool) :
    (BitVec.ofBool restriction ++ BitVec.ofBool span ++ BitVec.ofBool hold ++ BitVec.ofBool overflow ++
      BitVec.ofBool unused).setWidth 8 = BitVec.ofNat 8 ((if unused = true then 1 else 0) + 2 * overflow.toNat +
        (if hold = true then 4 else 0) + (if span = true then 8 else 0) + if restriction = true then 16 else 0) := by
  revert restriction span hold overflow unused
  decide

theorem offReasons_byte (spans : Vector Span 4) (x : Source) : (offReasons spans x).setWidth 8 =
    BitVec.ofNat 8 ((if x.exposure = .unused then 1 else 0) + 2 * x.overflow.toNat +
      (if x.hold = .off then 4 else 0) + (if spanCeiling spans x = .off then 8 else 0) +
      if ∃ r ∈ x.restrictions, r.ceiling = .off then 16 else 0) := by
  rw [offReasons, reasonsByte_eq]
  simp only [beq_iff_eq, List.any_eq_true]

/-- The state code and the flag bits of a byte 3 (R180). -/
theorem sentFieldBytes_eq (l : List Byte) : sentFieldBytes l = [(l.getD 3 0) >>> 5, (l.getD 3 0) &&& 0x1F] := by
  unfold sentFieldBytes
  generalize l.getD 3 0 = b
  revert b
  decide

/-! ### The span snapshot (R185) -/

theorem replicate_flatten_three (n : Nat) (b : Byte) :
    (List.replicate n [b, b, b]).flatten = List.replicate (3 * n) b :=
  List.flatten_replicate_replicate.trans (congrArg (List.replicate · b) (Nat.mul_comm n 3))

/-- One of the sixteen places for blocker keys (R185). -/
def keyPlace (k : Option Key) : List Byte := (k.map keyBytes).getD [0xFF, 0xFF, 0xFF]

theorem keyPlaces_eq_flatMap (l : List Key) : keyPlaces l = (List.range 16).flatMap fun n => keyPlace l[n]? := by
  refine congrArg (List.flatMap · (List.range 16)) (funext fun n => ?_)
  cases l[n]? <;> rfl

theorem keyPlaces_eq (l : List Key) :
    keyPlaces l = (l.take 16).flatMap keyBytes ++ List.replicate (48 - 3 * l.length) 0xFF := by
  rw [keyPlaces_eq_flatMap, flatMap_places_eq]
  refine congrArg ((l.take 16).flatMap keyBytes ++ ·) ((replicate_flatten_three ..).trans ?_)
  rw [Nat.mul_sub]

variable (s : State)

theorem State.snapshotBytes_eq (d : Degree) : s.snapshotBytes d =
    [BitVec.ofNat 8 d.val, stateByte (s.span d).state, causeByte (s.span d).cause, BitVec.ofNat 8 (s.span d).failed,
      BitVec.ofNat 8 ((s.blockerKeys d).length + if s.words.own = 0 then 1 else 0),
      boolByte (decide (s.words.own = 0))] ++
    ((s.line d).far.map fun x => halfBytes (x.ordinal.setWidth 16)).getD [0xFF, 0xFF] ++
    [boolByte (s.line d).lost] ++ ((s.blockerKeys d).take 16).flatMap keyBytes ++
    List.replicate (48 - 3 * (s.blockerKeys d).length) 0xFF := by
  have hnone : s.noOrdinal = decide (s.words.own = 0) := beq_eq_decide ..
  rw [State.snapshotBytes, keyPlaces_eq, farOrdinalBytes_eq, hnone]
  simp only [byteOf, decide_eq_true_eq, List.append_assoc]

/-! ### The replies -/

theorem State.takeGetSource_reply (i : SourceNo) : s.takeGetSource (BitVec.ofNat 8 i.val) =
    (s, [codeOk] ++ exposureBytes (s.source i).exposure ++ intBytes (s.source i).full ++
      intBytes (s.source i).reduced ++ intBytes (s.source i).probe ++ intBytes (s.source i).effReduced ++
      intBytes (effProbe s.ctrl.spans (s.source i)) ++
      [holdByte (s.source i).hold, boolByte (s.source i).overflow] ++
      ceilingFormBytes (spanCeiling s.ctrl.spans (s.source i)) ++ powerBytes (s.source i).grant ++
      [boolByte (s.source i).enable, (offReasons s.ctrl.spans (s.source i)).setWidth 8,
        byteOf (s.source i).restrictions.length] ++ (s.source i).restrictions.flatMap restrictionBytes) := by
  simp only [State.takeGetSource, index?_ofNat (show 16 ≤ 256 by decide), List.append_assoc, List.cons_append,
    List.nil_append]

theorem State.takeGetSpan_reply (d : Degree) : s.takeGetSpan (BitVec.ofNat 8 d.val) =
    (s, [codeOk] ++ s.snapshotBytes d ++
      [roleByte (s.span d).role, boolByte (s.span d).honoured, boolByte (s.span d).asserting,
        originByte (s.span d).origin] ++
      natBytes (s.span d).remaining ++ intBytes (s.span d).config.hazardLimit ++
      natBytes (s.span d).config.restartInterval ++
      [byteOf (s.span d).config.probeTime, byteOf (s.span d).config.probeLimit] ++
      natBytes (s.span d).config.settleTime ++ natBytes (s.span d).config.rampDepth ++
      natBytes (s.span d).config.rampStep ++ natBytes (s.span d).config.rampInterval ++ [viewByte (s.span d)] ++
      farFieldBytes (s.line d).far ++ timerBytes (s.span d).settle ++ timerBytes (s.span d).interval ++
      timerBytes (s.span d).probeTimer ++ timerBytes (s.span d).rampTimer ++ timerBytes (s.span d).request) := by
  simp only [State.takeGetSpan, spanConfigBytes, index?_ofNat (show 4 ≤ 256 by decide), List.append_assoc,
    List.cons_append, List.nil_append]

theorem State.lineBytes_eq (d : Degree) : s.lineBytes d =
    [0x00] ++ halfBytes (s.words.own.setWidth 16) ++ halfBytes ((s.line d).expected.setWidth 16) ++
      [BitVec.ofNat 8 ((s.line d).lost.toNat + 2 * (s.line d).shut.toNat + 4 * (s.line d).lockout.toNat +
        8 * (s.line d).miswire.toNat)] ++
      ((s.line d).far.map fun x => halfBytes (x.ordinal.setWidth 16)).getD [0xFF, 0xFF] ++
      ((s.line d).far.map fun x =>
        [BitVec.ofNat 8 x.degree.val, x.code.setWidth 8, x.flags.setWidth 8]).getD [0xFF, 0xFF, 0xFF] ++
      timerBytes (s.line d).timer ++ [BitVec.ofNat 8 (s.line d).recovery] ++
      halfBytes (BitVec.ofNat 16 (s.line d).accepted) ++ halfBytes (BitVec.ofNat 16 (s.line d).mismatched) ++
      halfBytes (BitVec.ofNat 16 (s.line d).discarded) := by
  rw [State.lineBytes, raisedByte_eq, farOrdinalBytes_eq, farFieldBytes_eq]
  simp only [codeOk, natBytes, byteOf, List.append_assoc, List.cons_append, List.nil_append]

theorem State.takeGetLine_sent {d : Degree} {w : List Byte} (h : (s.line d).sent = some w) :
    s.takeGetLine (BitVec.ofNat 8 d.val) = (s, s.lineBytes d ++ [(w.getD 3 0) >>> 5, (w.getD 3 0) &&& 0x1F]) := by
  rw [← sentFieldBytes_eq]
  simp only [State.takeGetLine, index?_ofNat (show 4 ≤ 256 by decide), h]

theorem State.takeGetLine_unsent {d : Degree} (h : (s.line d).sent = none) :
    s.takeGetLine (BitVec.ofNat 8 d.val) = ({ s with freeIndex := s.freeIndex + 2 },
      s.lineBytes d ++ [Config.freeByte s.freeIndex, Config.freeByte (s.freeIndex + 1)]) := by
  simp only [State.takeGetLine, index?_ofNat (show 4 ≤ 256 by decide), h]

theorem State.takeGetProfile_reply (n : ProfileNo) (d : Degree) {l : Limits}
    (hl : l = look (look s.store.profiles n).limits d) :
    s.takeGetProfile (BitVec.ofNat 8 n.val) (BitVec.ofNat 8 d.val) =
      (s, [codeOk, BitVec.ofNat 8 n.val, BitVec.ofNat 8 d.val] ++
        intBytes l.darkLevel ++ intBytes l.darkHyst ++ natBytes l.darkRaise ++ natBytes l.darkClear ++
        intBytes l.reflectLimit ++ intBytes l.reflectHyst ++ natBytes l.reflectRaise ++ natBytes l.reflectClear ++
        intBytes l.outFloor ++ intBytes l.pumpLimit ++ intBytes l.pumpHyst ++ natBytes l.pumpRaise ++
        natBytes l.pumpClear ++ natBytes l.lineTimeout ++
        [boolByte l.autoRestart, setByte (look s.store.profiles n).mask, byteOf s.store.active.val]) := by
  subst hl
  simp only [State.takeGetProfile, limitsBytes, index?_ofNat (show 2 ≤ 256 by decide),
    index?_ofNat (show 4 ≤ 256 by decide), List.append_assoc, List.cons_append, List.nil_append]

/-- Settles O23: each reply, with its fields as the request's own lemma gives them. -/
theorem queriesOfSourcesSpansLinesAndProfiles : Obligations.QueriesOfSourcesSpansLinesAndProfiles := by
  intro s a b
  refine ⟨?_, s.snapshotBytes_eq, ?_, ?_, ?_⟩
  · rintro i rfl
    have hreply := s.takeGetSource_reply i
    rw [powerBytes_eq, offReasons_byte, restrictionBytes_eq] at hreply
    exact serve_answer _ hreply
  · rintro d rfl
    have hreply := s.takeGetSpan_reply d
    rw [viewByte_eq, farFieldBytes_eq] at hreply
    exact serve_answer _ hreply
  · rintro d rfl
    exact ⟨_, s.lineBytes_eq d, fun w hw => serve_answer _ (s.takeGetLine_sent hw),
      fun hw => serve_answer _ (s.takeGetLine_unsent hw)⟩
  · rintro n d rfl rfl l hl
    exact serve_answer _ (s.takeGetProfile_reply n d hl)

end Sys2Proof.Machine
end

section
/-! SUPPORT and O58. Every command and every millisecond keeps every span record safe (R79 to R87, R94, R96, R107, R118):
first the records that a state change leaves, then the span controller's operations, which write no other record. -/

namespace Sys2Proof.Machine

/-! ### Which records a state change and a recomputation leave -/

theorem GrantSide.span {s t : State} (h : GrantSide s t) (d : Degree) : t.span d = s.span d := by
  unfold State.span
  rw [h.ctrl]

theorem State.moveSpan_span (s : State) (d e : Degree) (n : SpanState) (c : SpanCause) (f : Span → Span)
    (k : Option Key) : (s.moveSpan d n c f k).span e = if d = e then f ((s.span d).enter n c) else s.span e := by
  have hside : GrantSide (s.setSpan d (f ((s.span d).enter n c))) (s.moveSpan d n c f k) := by
    unfold State.moveSpan
    refine GrantSide.trans ?_ (rfl : GrantSide _ (State.handNotice _ _))
    refine GrantSide.trans ?_ (State.handCutTrigger_side ..).toGrantSide
    refine GrantSide.trans ?_ (State.handForcedIf_side ..).toGrantSide
    refine GrantSide.trans ?_ (State.recomputeAll_side ..)
    rfl
  rw [hside.span, setSpan_span]

/-! ### The condition view stands apart from a state change (R81) -/

theorem Span.see_state (r : Span) (d : Degree) (k : Key) (b : Bool) : (r.see d k b).state = r.state := by
  unfold Span.see
  split_ifs <;> rfl

theorem Span.see_enter (r : Span) (d : Degree) (k : Key) (b : Bool) (n : SpanState) (c : SpanCause) :
    (r.see d k b).enter n c = (r.enter n c).see d k b := by
  unfold Span.see
  split_ifs <;> rfl

theorem Span.see_darken (r : Span) (d : Degree) (k : Key) (b blocked : Bool) :
    (r.see d k b).darken blocked = (r.darken blocked).see d k b := by
  unfold Span.see
  split_ifs <;> rfl

/-! ### Safe records -/

theorem countUp_le (n : Nat) : countUp n ≤ 15 := Nat.min_le_left ..

section
variable {r : Span} (h : SpanSafe r)
include h

/-- What R79 to R87 say of a record is not said of its cause, role, marks of the request and of MISWIRE, or its count of
changes. -/
theorem SpanSafe.withMarks (c : SpanCause) (x : SpanRole) (honoured miswire : Bool) (n : Word32) :
    SpanSafe { r with cause := c, role := x, honoured := honoured, seenMiswire := miswire, changes := n } :=
  ⟨h.failed, h.litCount, h.litSeen, h.settle, h.settled, h.interval, h.probeTimer, h.origin, h.rampTimer, h.remaining,
    h.request, h.asserting, h.depth⟩

/-- Entry into another state from a safe record (R84, R107): no assertion, ramp remaining or probe origin is left. -/
theorem SpanSafe.enter_eq (n : SpanState) (hn : n ≠ .await ∨ r.state ≠ .await) (c : SpanCause) : r.enter n c = { r with
    state := n, cause := c, failed := if n = .lit then 0 else r.failed, asserting := false, remaining := 0,
    settle := keepIf (n == .dark) r.settle, interval := keepIf (n == .dark || n == .await) r.interval,
    probeTimer := keepIf (n == .probe) r.probeTimer, rampTimer := keepIf (n == .ramp) r.rampTimer,
    request := none, origin := none, changes := r.changes + 1 } := by
  obtain ⟨-, -, -, -, -, -, -, horigin, -, hremaining, hrequest, hasserting, -⟩ := h
  unfold Span.enter
  congr 1
  · cases hs : r.state <;> cases ha : r.asserting <;> simp_all
  · cases hs : r.state <;> simp_all
  · cases hs : r.state <;> cases hr : r.request <;> simp_all [keepIf]
  · cases hs : r.state <;> cases ho : r.origin <;> simp_all

theorem SpanSafe.enterDark (c : SpanCause) (b : Bool) : SpanSafe ((r.enter .dark c).darken b) := by
  rw [h.enter_eq .dark (.inl nofun)]
  have hf := h.failed
  have hd := h.depth
  cases b <;> constructor <;> simp_all [Span.darken, viewOf, keepIf]

theorem SpanSafe.enterShut {n : SpanState} (hn : n = .held ∨ n = .locked) (c : SpanCause) :
    SpanSafe (r.enter n c) := by
  have hf := h.failed
  have hd := h.depth
  obtain rfl | rfl := hn
  · rw [h.enter_eq .held (.inl nofun)]
    constructor <;> simp_all [keepIf]
  · rw [h.enter_eq .locked (.inl nofun)]
    constructor <;> simp_all [keepIf]

theorem SpanSafe.enterProbe (c : SpanCause) (o : ProbeOrigin) (ms : Nat) :
    SpanSafe ((r.enter .probe c).startProbe o ms) := by
  rw [h.enter_eq .probe (.inl nofun)]
  have hf := h.failed
  have hd := h.depth
  constructor <;> simp_all [Span.startProbe, keepIf]

theorem SpanSafe.enterLit (hdark : r.seenDark = false) (hshut : r.seenShut = false) (c : SpanCause) :
    SpanSafe (r.enter .lit c) := by
  rw [h.enter_eq .lit (.inl nofun)]
  have hd := h.depth
  constructor <;> simp_all [keepIf]

theorem SpanSafe.enterRamp (hdark : r.seenDark = false) (hshut : r.seenShut = false) (hdepth : r.config.rampDepth ≠ 0)
    (c : SpanCause) : SpanSafe (r.enter .ramp c).startRamp := by
  rw [h.enter_eq .ramp (.inl nofun)]
  have hf := h.failed
  have hd := h.depth
  constructor <;> simp_all [Span.startRamp, keepIf]
  omega

/-- Entry into AWAIT from DARK, whose interval timer runs on (R84, R96). -/
theorem SpanSafe.enterAwait_of_dark (hs : r.state = .dark) (c : SpanCause) : SpanSafe (r.enter .await c) := by
  have hi := h.interval.mpr (.inl hs)
  rw [h.enter_eq .await (.inr (by simp [hs]))]
  have hf := h.failed
  have hd := h.depth
  constructor <;> simp_all [keepIf]

/-- Entry into AWAIT with the interval timer loaded (R106). -/
theorem SpanSafe.enterAwait_loaded (hs : r.state ≠ .await) (c : SpanCause) (ms : Nat) :
    SpanSafe { r.enter .await c with interval := some ms } := by
  rw [h.enter_eq .await (.inr hs)]
  have hf := h.failed
  have hd := h.depth
  constructor <;> simp_all [keepIf]

theorem SpanSafe.withFailed (hs : r.state ≠ .lit) {n : Nat} (hn : n ≤ 15) : SpanSafe { r with failed := n } :=
  ⟨hn, fun e => absurd e hs, h.litSeen, h.settle, h.settled, h.interval, h.probeTimer, h.origin, h.rampTimer,
    h.remaining, h.request, h.asserting, h.depth⟩

theorem SpanSafe.assertRequest (hs : r.state = .await) : SpanSafe r.assertRequest :=
  ⟨h.failed, h.litCount, h.litSeen, h.settle, h.settled, h.interval, h.probeTimer, h.origin, h.rampTimer, h.remaining,
    rfl, fun _ => hs, h.depth⟩

theorem SpanSafe.withdrawRequest : SpanSafe r.withdrawRequest :=
  ⟨h.failed, h.litCount, h.litSeen, h.settle, h.settled, h.interval, h.probeTimer, h.origin, h.rampTimer, h.remaining,
    rfl, nofun, h.depth⟩

theorem SpanSafe.withInterval (hs : r.state = .dark ∨ r.state = .await) (n : Nat) :
    SpanSafe { r with interval := some n } :=
  ⟨h.failed, h.litCount, h.litSeen, h.settle, h.settled, iff_of_true rfl hs, h.probeTimer, h.origin, h.rampTimer,
    h.remaining, h.request, h.asserting, h.depth⟩

/-- A re-examination in DARK: the settle timer runs exactly with an empty view (R93, R94). -/
theorem SpanSafe.resettle (hs : r.state = .dark) {x : Timer} {v : BlockerView} (hx : x.isSome = true ↔ v = .empty) :
    SpanSafe { r with settle := x, view := v } :=
  ⟨h.failed, h.litCount, h.litSeen, fun _ => hs, fun _ => hx, h.interval, h.probeTimer, h.origin, h.rampTimer,
    h.remaining, h.request, h.asserting, h.depth⟩

theorem SpanSafe.withView {v : BlockerView} (hv : r.state = .dark → v = r.view) : SpanSafe { r with view := v } :=
  ⟨h.failed, h.litCount, h.litSeen, h.settle, fun hs => by rw [hv hs]; exact h.settled hs, h.interval, h.probeTimer,
    h.origin, h.rampTimer, h.remaining, h.request, h.asserting, h.depth⟩

theorem SpanSafe.withConfig {c : SpanConfig} (hc : c.rampDepth ≤ 3000) : SpanSafe { r with config := c } :=
  ⟨h.failed, h.litCount, h.litSeen, h.settle, h.settled, h.interval, h.probeTimer, h.origin, h.rampTimer, h.remaining,
    h.request, h.asserting, hc⟩

theorem SpanSafe.stepRamp (hr : r.state = .ramp) {x : Nat} (hx : r.remaining - x ≠ 0) (n : Nat) :
    SpanSafe { r with remaining := r.remaining - x, rampTimer := some n } := by
  have hremaining := h.remaining
  rw [if_pos hr] at hremaining
  have hleft : 1 ≤ r.remaining - x ∧ r.remaining - x ≤ 3000 := by omega
  exact ⟨h.failed, h.litCount, h.litSeen, h.settle, h.settled, h.interval, h.probeTimer, h.origin, iff_of_true rfl hr,
    (if_pos hr).mpr hleft, h.request, h.asserting, h.depth⟩

theorem SpanSafe.withSeen {x y : Bool} (hseen : r.state = .lit ∨ r.state = .ramp → x = false ∧ y = false) :
    SpanSafe { r with seenDark := x, seenShut := y } :=
  ⟨h.failed, h.litCount, hseen, h.settle, h.settled, h.interval, h.probeTimer, h.origin, h.rampTimer, h.remaining,
    h.request, h.asserting, h.depth⟩

/-- In LIT and RAMP no condition may come to be seen (R81, R89, R112). -/
theorem SpanSafe.see (d : Degree) (k : Key) {b : Bool} (hb : r.state = .lit ∨ r.state = .ramp → b = false) :
    SpanSafe (r.see d k b) := by
  unfold Span.see
  split
  · exact h.withSeen fun hl => ⟨hb hl, (h.litSeen hl).2⟩
  · split
    · exact h.withSeen fun hl => ⟨(h.litSeen hl).1, hb hl⟩
    · split
      · exact h.withMarks _ _ _ b _
      · exact h

/-- Entry into DARK or HELD after a condition has been seen, as a cut order does (R89). -/
theorem SpanSafe.see_enterDark (d : Degree) (k : Key) (c : SpanCause) (b : Bool) :
    SpanSafe (((r.see d k true).enter .dark c).darken b) := by
  rw [Span.see_enter, Span.see_darken]
  exact (h.enterDark c b).see d k fun hl => by cases hl <;> contradiction

theorem SpanSafe.see_enterHeld (d : Degree) (k : Key) (c : SpanCause) : SpanSafe ((r.see d k true).enter .held c) := by
  rw [Span.see_enter]
  exact (h.enterShut (.inl rfl) c).see d k fun hl => by cases hl <;> contradiction

theorem tickSpan_safe : SpanSafe (tickSpan r) := by
  have htick : ∀ t : Timer, (tickTimer t).isSome = t.isSome := fun t => Option.isSome_map
  exact ⟨h.failed, h.litCount, h.litSeen, by simpa [tickSpan, htick] using h.settle,
    by simpa [tickSpan, htick] using h.settled, by simpa [tickSpan, htick] using h.interval,
    by simpa [tickSpan, htick] using h.probeTimer, h.origin, by simpa [tickSpan, htick] using h.rampTimer, h.remaining,
    by simpa [tickSpan, htick] using h.request, h.asserting, h.depth⟩

end

theorem Span.softReset_safe {r : Span} (hd : r.config.rampDepth ≤ 3000) (own : Ordinal) :
    SpanSafe (r.softReset own) := by
  obtain ⟨hf, hl, hls, hset, -, hi, hp, ho, hr, hrem, hreq, has, -⟩ := defaultSpan_safe
  exact ⟨hf, hl, hls, hset, nofun, hi, hp, ho, hr, hrem, hreq, has, hd⟩

/-! ### The span controller's operations -/

section
variable {s : State} (hs : s.SpansSafe)
include hs

theorem State.SpansSafe.of_ctrl {t : State} (h : t.ctrl = s.ctrl) : t.SpansSafe := fun d => by
  unfold State.span
  rw [h]
  exact hs d

theorem State.SpansSafe.setSpan {d : Degree} {r : Span} (hr : SpanSafe r) : (s.setSpan d r).SpansSafe := fun e => by
  rw [setSpan_span]
  split
  · exact hr
  · exact hs e

theorem State.SpansSafe.moveSpan {d : Degree} {n : SpanState} {c : SpanCause} {f : Span → Span}
    (hf : SpanSafe (f ((s.span d).enter n c))) (k : Option Key) : (s.moveSpan d n c f k).SpansSafe := fun e => by
  rw [State.moveSpan_span]
  split
  · exact hf
  · exact hs e

/-- A state change over a record that has just been written, as a cut order does (R89). -/
theorem State.SpansSafe.setSpan_moveSpan {d : Degree} {r : Span} {n : SpanState} {c : SpanCause} {f : Span → Span}
    (hf : SpanSafe (f (r.enter n c))) (k : Option Key) : ((s.setSpan d r).moveSpan d n c f k).SpansSafe := fun e => by
  rw [State.moveSpan_span, State.span_setSpan_same, setSpan_span]
  split
  · exact hf
  · exact hs e

theorem State.SpansSafe.enterDark (d : Degree) (c : SpanCause) (k : Option Key) : (s.enterDark d c id k).SpansSafe :=
  hs.moveSpan ((hs d).enterDark c _) k

/-- Entry into DARK with the failed-probe count `n` (R87, R89, R99, R100). -/
theorem State.SpansSafe.enterDark_counted (d : Degree) (c : SpanCause) {n : Nat} (hn : n ≤ 15) (k : Option Key) :
    (s.enterDark d c (fun r => { r with failed := n }) k).SpansSafe :=
  hs.moveSpan (((hs d).enterDark c _).withFailed nofun hn) k

theorem State.SpansSafe.enterShut {d : Degree} {n : SpanState} (hn : n = .held ∨ n = .locked) (c : SpanCause)
    (k : Option Key) : (s.moveSpan d n c id k).SpansSafe :=
  hs.moveSpan ((hs d).enterShut hn c) k

theorem State.SpansSafe.exhaust (d : Degree) {n : Nat} (hn : n ≤ 15) (k : Option Key) :
    (s.moveSpan d .held .exhausted (fun r => { r with failed := n }) k).SpansSafe :=
  hs.moveSpan (((hs d).enterShut (.inl rfl) _).withFailed nofun hn) k

theorem State.SpansSafe.enterProbe (d : Degree) (c : SpanCause) : (s.enterProbe d c id).SpansSafe :=
  hs.moveSpan ((hs d).enterProbe c ..) none

theorem State.SpansSafe.settleInAwait {d : Degree} (ha : (s.span d).state = .await) :
    (s.settleInAwait d).SpansSafe := by
  unfold State.settleInAwait
  split
  · exact hs.enterDark d _ _
  · split
    · exact hs.setSpan ((hs d).assertRequest ha)
    · exact hs

/-- Entry into AWAIT from DARK or PROBE (R106), with a further change `f` of the record that keeps it safe. -/
theorem State.SpansSafe.enterAwait {d : Degree} (hw : (s.span d).state = .dark ∨ (s.span d).state = .probe)
    (c : SpanCause) {f : Span → Span} (hf : ∀ {r}, SpanSafe r → r.state ≠ .lit → SpanSafe (f r))
    (hst : ∀ r, (f r).state = r.state) : (s.enterAwait d c f).SpansSafe := by
  unfold State.enterAwait
  split
  · exact hs.moveSpan (hf ((hs d).enterShut (.inl rfl) _) nofun) none
  · refine State.SpansSafe.settleInAwait (hs.moveSpan ?_ none) ?_
    · split
      · next hp => exact hf ((hs d).enterAwait_loaded (by simp [hp]) c _) nofun
      · next hp => exact hf ((hs d).enterAwait_of_dark (hw.resolve_right hp) c) nofun
    · rw [State.moveSpan_span, if_pos rfl, hst]
      split <;> rfl

theorem State.SpansSafe.takeCut (d : Degree) (k : Key) : (s.takeCut d k).SpansSafe := by
  have hdark : ∀ b, SpanSafe ((((s.span d).see d k true).enter .dark .cut).darken b) := (hs d).see_enterDark d k _
  have hstays : (s.span d).state ≠ .lit → (s.span d).state ≠ .ramp →
      (s.setSpan d ((s.span d).see d k true)).SpansSafe := fun hl hr =>
    hs.setSpan ((hs d).see d k fun h => absurd h (not_or.mpr ⟨hl, hr⟩))
  unfold State.takeCut
  dsimp only
  split
  case h_1 => exact hs.setSpan_moveSpan (hdark _) _
  case h_2 | h_3 =>
    split
    · exact hs.setSpan_moveSpan (((hs d).see_enterHeld d k _).withFailed nofun (countUp_le _)) _
    · exact hs.setSpan_moveSpan ((hdark _).withFailed nofun (countUp_le _)) _
  all_goals
    next hst =>
    rw [State.span_setSpan_same, Span.see_state] at hst
    exact hstays (by simp [hst]) (by simp [hst])

theorem State.SpansSafe.takeLock (d : Degree) (c : LockCause) : (s.takeLock d c).SpansSafe := by
  unfold State.takeLock
  split
  · split
    · exact hs.setSpan ((hs d).withMarks ..)
    · exact hs
  · exact hs.enterShut (.inr rfl) _ _

theorem State.SpansSafe.reexamine (d : Degree) : (s.reexamine d).SpansSafe := by
  have h := hs d
  unfold State.reexamine
  dsimp only
  split
  · next hst _ _ => exact hs.setSpan (h.resettle hst (by simp))
  · next hst _ _ => exact hs.setSpan (h.resettle hst (by simp))
  · exact hs.enterDark d _ _
  · next hstops hstarts _ =>
    refine hs.setSpan (h.withView fun hst => ?_)
    cases hv : (s.span d).view <;> cases hb : s.blocked d
    · rfl
    · exact (hstops hst hv hb).elim
    · exact (hstarts hst hv hb).elim
    · rfl

theorem State.SpansSafe.testConfirmation (d : Degree) (far : Option FarWord) :
    (s.testConfirmation d far).SpansSafe := by
  unfold State.testConfirmation
  split
  · next hc =>
    obtain ⟨-, hc⟩ := hc
    simp only [State.confirmed, Bool.and_eq_true, Bool.not_eq_true'] at hc
    obtain ⟨⟨hdark, hshut⟩, -⟩ := hc
    split
    · exact hs.moveSpan ((hs d).enterLit hdark hshut _) none
    · next hdepth => exact hs.moveSpan ((hs d).enterRamp hdark hshut hdepth _) none
  · exact hs

theorem State.SpansSafe.setRole (d : Degree) (far : Option FarWord) : (s.setRole d far).SpansSafe := by
  have hrole := hs.setSpan (d := d) ((hs d).withMarks (s.span d).cause (roleAgainst s.words.own far) (s.span d).honoured
    (s.span d).seenMiswire (s.span d).changes)
  unfold State.setRole
  dsimp only
  split
  · exact hrole.enterShut (.inl rfl) _ _
  · exact hrole

theorem State.SpansSafe.takeSpanClear (k : Key) (w : DegSet) : (s.takeSpanClear k w).SpansSafe := by
  have hfold : ∀ (l : List Degree) {u : State}, u.SpansSafe → (l.foldl State.reexamine u).SpansSafe := by
    intro l
    induction l with
    | nil => exact id
    | cons d l ih => exact fun hu => ih (hu.reexamine d)
  have hseen : ∀ d, (s.setSpan d ((s.span d).see d k false)).SpansSafe := fun d =>
    hs.setSpan ((hs d).see d k fun _ => rfl)
  unfold State.takeSpanClear
  dsimp only
  split
  · refine State.SpansSafe.testConfirmation (hfold _ ?_) _ _
    split
    · exact hseen _
    · exact hs
  · refine hfold _ ?_
    split
    · exact hseen _
    · exact hs

theorem State.SpansSafe.withdrawOn (d : Degree) (w : FarWord) : (s.withdrawOn d w).SpansSafe := by
  unfold State.withdrawOn
  split
  · exact hs.setSpan (hs d).withdrawRequest
  · exact hs

theorem State.SpansSafe.replyProbe (d : Degree) (w : FarWord) : (s.replyProbe d w).SpansSafe := by
  unfold State.replyProbe
  split
  · exact hs.enterProbe d _
  · exact hs

theorem State.SpansSafe.farRequest (d : Degree) (w : FarWord) : (s.farRequest d w).SpansSafe := by
  unfold State.farRequest
  split
  · exact hs.moveSpan (((hs d).enterProbe _ ..).withMarks (s.span d |>.enter .probe .farRequest).cause _ true _ _) none
  · exact hs

theorem State.SpansSafe.takeFarWord (d : Degree) (w : FarWord) : (s.takeFarWord d w).SpansSafe :=
  ((((hs.setRole d _).withdrawOn d w).replyProbe d w).farRequest d w).testConfirmation d _

theorem State.SpansSafe.takeOrdinalChange (d : Degree) (b : Bool) : (s.takeOrdinalChange d b).SpansSafe := by
  unfold State.takeOrdinalChange
  split
  · exact (hs.reexamine d).setRole d _
  · exact hs.setRole d _

theorem State.SpansSafe.recomputeAll (b : Bool) (l : List SourceNo) : (s.recomputeAll b l).SpansSafe :=
  hs.of_ctrl (State.recomputeAll_side ..).ctrl

theorem State.SpansSafe.stepRamp {d : Degree} (hr : (s.span d).state = .ramp) : (s.stepRamp d).SpansSafe := by
  have h := hs d
  obtain ⟨hdark, hshut⟩ := h.litSeen (.inr hr)
  unfold State.stepRamp
  dsimp only
  split
  · exact hs.moveSpan (h.enterLit hdark hshut _) none
  · next hleft => exact (hs.setSpan (h.stepRamp hr hleft _)).recomputeAll false _

theorem State.SpansSafe.failProbe {d : Degree} (hp : (s.span d).state = .probe) : (s.failProbe d).SpansSafe := by
  unfold State.failProbe
  dsimp only
  split
  · exact hs.exhaust d (countUp_le _) none
  · exact hs.enterAwait (.inr hp) _ (fun h hl => h.withFailed hl (countUp_le _)) fun _ => rfl

theorem State.SpansSafe.intervalInAwait {d : Degree} (ha : (s.span d).state = .await) :
    (s.intervalInAwait d).SpansSafe := by
  have hloaded := (hs d).withInterval (.inr ha) (s.span d).config.intervalMs
  unfold State.intervalInAwait
  dsimp only
  split
  · split
    · exact hs.enterProbe d _
    · exact hs.setSpan (hloaded.assertRequest ha)
    · exact hs.setSpan hloaded
  · exact hs.setSpan hloaded

theorem State.SpansSafe.release (c : SpanCause) (d : Degree) : (State.release c s d).SpansSafe :=
  hs.enterDark_counted d c (Nat.zero_le _) none

theorem State.SpansSafe.probeManually (ms : Nat) (d : Degree) : (State.probeManually ms s d).SpansSafe :=
  hs.moveSpan ((hs d).enterProbe ..) none

theorem State.SpansSafe.takeSetSpan (d : Byte) (c : RawSpanConfig) : (s.takeSetSpan d c).1.SpansSafe := by
  unfold State.takeSetSpan
  split
  · exact hs
  · next d _ =>
    exact (hs.setSpan ((hs d).withConfig (clampSpanConfig_safe c).rampDepth.2)).recomputeAll false _

theorem State.SpansSafe.takeLockRequest (d : Byte) : (s.takeLockRequest d).1.SpansSafe := by
  unfold State.takeLockRequest
  split
  · exact hs
  · exact hs.takeLock _ _

theorem State.SpansSafe.spanCommit (n : Byte) (l : List Byte) (p : Degree → Reason)
    {f : State → Degree → State} (hf : ∀ {u : State}, u.SpansSafe → ∀ d, (f u d).SpansSafe) (ok : Byte) :
    (s.spanCommit n l p f ok).1.SpansSafe := by
  have hfold : ∀ (ds : List Degree) {u : State}, u.SpansSafe → (ds.foldl f u).SpansSafe := by
    intro ds
    induction ds with
    | nil => exact id
    | cons d ds ih => exact fun hu => ih (hf hu d)
  have hspent := hs.of_ctrl (State.endClaim_side s .consumed).ctrl
  unfold State.spanCommit
  split
  · exact hs
  · unfold State.commit
    dsimp only
    split
    · exact hspent
    · split
      · exact hfold _ hspent
      · exact hspent

theorem State.SpansSafe.tick : s.tick.SpansSafe := fun d => by
  rw [State.tick_span]
  exact tickSpan_safe (hs d)

end

/-! ### All commands -/

/-- The commands of the span controller, and those that reset the part. -/
def movesSpans : Instr → Bool
  | .powerOnReset | .replySent | .cutOrder | .lockOrder | .clearAtSpanController | .blockerReexamination
  | .settleExpiry _ | .intervalExpiry _ | .probeTimerExpiry _ | .requestTimerExpiry _ | .rampStepExpiry _
  | .farWordAtSpanController _ | .siteOrdinalChange _ | .setSpan .. | .lock _ | .resume .. | .unlock ..
  | .probeNow .. => true
  | _ => false

/-- What the grant unit does in an event leaves the span controller, as does the reply to a request. -/
theorem serve_ctrl {s : State} {r : State × List Byte} (i : Instr) (h : r.1.ctrl = s.ctrl) :
    Answers (fun t => t.ctrl = s.ctrl) (.next (State.serve i r)) :=
  .next ((State.answer_side r.1 i r.2).ctrl.trans h)

/-- Every command but those of `movesSpans` leaves the span controller. -/
theorem exec_ctrl (s : State) (i : Instr) (hi : movesSpans i = false) :
    Answers (fun t => t.ctrl = s.ctrl) (exec i s) := by
  cases hl : movesLight i with
  | false => exact fun t ht => (exec_light s i hl t ht).2
  | true =>
    cases i with
    | restrictionOrder =>
      simp only [exec, execRestrictionOrder]
      split
      · exact .next (State.restrict_side ..).ctrl
      all_goals exact .next rfl
    | clearAtGrantUnit =>
      simp only [exec, execClearAtGrantUnit]
      split
      · exact .next (GrantSide.foldl (State.updateSource_side _) _ _).ctrl
      all_goals exact .next rfl
    | removalOrder =>
      simp only [exec, execRemovalOrder]
      split
      · exact .next (GrantSide.foldl (State.updateSource_side _) _ _).ctrl
      all_goals exact .next rfl
    | setSource j e d f r p =>
      refine serve_ctrl _ ?_
      unfold State.takeSetSource
      split
      · exact (State.recompute_side ..).ctrl
      · rfl
    | holdSource j h =>
      refine serve_ctrl _ ?_
      unfold State.takeHoldSource
      split
      · next j h _ _ =>
        have hside := State.updateSource_side (fun x => { x with hold := h }) s j
        exact hside.ctrl
      · rfl
    | releaseLatch j =>
      refine serve_ctrl _ ?_
      unfold State.takeReleaseLatch
      split
      · rfl
      · split
        · have hspent := (State.endClaim_side s .consumed).ctrl
          unfold State.commit
          dsimp only
          split
          · exact hspent
          · split
            · exact (GrantSide.foldl (fun t _ => State.updateSource_side _ t _) _ _).ctrl.trans hspent
            · exact hspent
        · exact (State.updateSource_side _ s _).ctrl
    | _ => exact absurd (hi.symm.trans hl) Bool.false_ne_true

section
variable {s : State} (hs : s.SpansSafe)
include hs

theorem State.SpansSafe.softReset {u : State} (h : ∀ d, (u.softReset.span d).config = (s.span d).config) :
    u.softReset.SpansSafe := by
  have hctrl : u.softReset.ctrl = u.softResetBlocks.ctrl := (State.leaveReset_light _).2
  have hspan : ∀ d, u.softReset.span d = (u.span d).softReset u.words.own := fun d => by
    rw [← State.softResetBlocks_span, State.span, hctrl, State.span]
  intro d
  have hdepth := (hs d).depth
  rw [← h d, hspan] at hdepth
  rw [hspan]
  exact Span.softReset_safe hdepth _

omit hs in
theorem State.SpansSafe.serve {r : State × List Byte} (hr : r.1.SpansSafe) (i : Instr) :
    Answers State.SpansSafe (.next (State.serve i r)) :=
  .next (hr.of_ctrl (State.answer_side ..).ctrl)

theorem exec_spansSafe (i : Instr) : Answers State.SpansSafe (exec i s) := by
  cases hi : movesSpans i with
  | false => exact fun t ht => hs.of_ctrl (exec_ctrl s i hi t ht)
  | true =>
    have htaken : ∀ x, ({ s with transit := x } : State).SpansSafe := fun _ => hs
    cases i with
    | powerOnReset =>
      refine .next (State.SpansSafe.of_ctrl (s := s.powerOnBlocks) (fun d => ?_) (State.leaveReset_light _).2)
      have hd : s.powerOnBlocks.span d = defaultSpan := look_replicate _ d
      exact hd ▸ defaultSpan_safe
    | replySent =>
      intro t ht
      have hconfig := congrFun ((execReplySent_keeps s t ht).same .spanConfig (by decide))
      obtain ⟨-, h⟩ | ⟨-, u, rfl⟩ := execReplySent_stands_or_resets s t ht
      · exact hs.of_ctrl h.2
      · exact hs.softReset hconfig
    | cutOrder =>
      simp only [exec, execCutOrder]
      split
      · exact .next ((htaken _).takeCut _ _)
      all_goals exact .next hs
    | lockOrder =>
      simp only [exec, execLockOrder]
      split
      · exact .next ((htaken _).takeLock _ _)
      all_goals exact .next hs
    | clearAtSpanController =>
      simp only [exec, execClearAtSpanController]
      split
      · exact .next ((htaken _).takeSpanClear _ _)
      all_goals exact .next hs
    | blockerReexamination =>
      simp only [exec, execBlockerReexamination]
      split
      · exact .next ((htaken _).reexamine _)
      all_goals exact .next hs
    | settleExpiry d =>
      simp only [exec, execSettleExpiry]
      split
      · next hd => exact .next (hs.enterAwait (.inl hd.2) _ (fun h _ => h) fun _ => rfl)
      · exact .next hs
    | intervalExpiry d =>
      have hcleared : (s.setSpan d { s.span d with honoured := false }).SpansSafe :=
        hs.setSpan ((hs d).withMarks ..)
      simp only [exec, execIntervalExpiry]
      split
      · split
        · next hd => exact .next (hcleared.setSpan ((hcleared d).withInterval (.inl (by simpa using hd)) _))
        · next ha => exact .next (hcleared.intervalInAwait (by simpa using ha))
        all_goals exact .next hs
      · exact .next hs
    | probeTimerExpiry d =>
      simp only [exec, execProbeTimerExpiry]
      split
      · next hp =>
        split
        · exact .next (hs.enterShut (.inl rfl) _ _)
        · exact .next (hs.enterAwait (.inr hp.2) _ (fun h _ => h) fun _ => rfl)
        all_goals exact .next (hs.failProbe hp.2)
      · exact .next hs
    | requestTimerExpiry d =>
      simp only [exec, execRequestTimerExpiry]
      split
      · exact .next (hs.setSpan (hs d).withdrawRequest)
      · exact .next hs
    | rampStepExpiry d =>
      simp only [exec, execRampStepExpiry]
      split
      · next hr => exact .next (hs.stepRamp hr.2)
      · exact .next hs
    | farWordAtSpanController d =>
      simp only [exec, execFarWordAtSpanController]
      split
      · exact .next ((htaken _).takeFarWord d _)
      all_goals exact .next hs
    | siteOrdinalChange d =>
      simp only [exec, execSiteOrdinalChange]
      split
      · exact .next ((htaken _).takeOrdinalChange d _)
      all_goals exact .next hs
    | setSpan d c => exact State.SpansSafe.serve (hs.takeSetSpan d c) _
    | lock d => exact State.SpansSafe.serve (hs.takeLockRequest d) _
    | resume n l =>
      exact State.SpansSafe.serve (refuseIllFormed_fst _ hs
        (hs.spanCommit n l _ (fun hu => hu.release _) _)) _
    | unlock n l =>
      exact State.SpansSafe.serve (refuseIllFormed_fst _ hs
        (hs.spanCommit n l _ (fun hu => hu.release _) _)) _
    | probeNow n t l =>
      exact State.SpansSafe.serve (refuseIllFormed_fst _ hs
        (hs.spanCommit n l _ (fun hu => hu.probeManually _) _)) _
    | _ => cases hi

end

/-- Settles O58: a millisecond keeps the span records safe (`State.SpansSafe.tick`), and so does every command
(`exec_spansSafe`). -/
theorem everyStepKeepsSpansSafe : Obligations.EveryStepKeepsSpansSafe := by
  intro s t hs h
  unfold step at h
  split at h
  · cases h
    exact hs.tick
  · next i rest _ => exact exec_spansSafe (s := { s with pending := rest }) hs i t h

end Sys2Proof.Machine
end

section
/-! O9. What leaves LOCKED (R98, R100, R176): no command of the span controller but UNLOCK moves a LOCKED span. -/

namespace Sys2Proof.Machine

/-- Where span `e` is LOCKED in `s`, it is LOCKED in `t`. -/
structure StaysLocked (e : Degree) (s t : State) : Prop where
  locked : (s.span e).state = .locked → (t.span e).state = .locked

section
variable {s t u : State} {d e : Degree}

theorem StaysLocked.refl (e : Degree) (s : State) : StaysLocked e s s := ⟨id⟩

theorem StaysLocked.trans (h : StaysLocked e s t) (k : StaysLocked e t u) : StaysLocked e s u :=
  ⟨fun hl => k.locked (h.locked hl)⟩

theorem StaysLocked.of_span (h : t.span e = s.span e) : StaysLocked e s t := ⟨fun hl => by rw [h, hl]⟩

theorem StaysLocked.of_ctrl (h : t.ctrl = s.ctrl) : StaysLocked e s t := .of_span (by rw [State.span, State.span, h])

theorem StaysLocked.foldl {α : Type} {f : State → α → State} (h : ∀ s x, StaysLocked e s (f s x)) (l : List α)
    (s : State) : StaysLocked e s (l.foldl f s) := by
  induction l generalizing s with
  | nil => exact .refl e s
  | cons x l ih => exact (h s x).trans (ih (f s x))

/-- Writing a record that keeps the state of its span. -/
theorem State.setSpan_staysLocked {r : Span} (h : r.state = (s.span d).state) : StaysLocked e s (s.setSpan d r) := by
  refine ⟨fun hl => ?_⟩
  rw [setSpan_span]
  split
  · next hde => rw [h, hde, hl]
  · exact hl

/-- A state change of a span that is not LOCKED. -/
theorem State.moveSpan_staysLocked (h : (s.span d).state ≠ .locked) (n : SpanState) (c : SpanCause) (f : Span → Span)
    (k : Option Key) : StaysLocked e s (s.moveSpan d n c f k) := by
  refine ⟨fun hl => ?_⟩
  rw [State.moveSpan_span]
  split
  · next hde => exact absurd (hde ▸ hl) h
  · exact hl

/-! ### The span controller's operations -/

theorem State.settleInAwait_staysLocked (h : (s.span d).state ≠ .locked) : StaysLocked e s (s.settleInAwait d) := by
  unfold State.settleInAwait
  split
  · exact State.moveSpan_staysLocked h ..
  · split
    · exact State.setSpan_staysLocked rfl
    · exact .refl e s

theorem State.enterAwait_staysLocked (h : (s.span d).state ≠ .locked) (c : SpanCause) {f : Span → Span}
    (hf : ∀ r, (f r).state = r.state) : StaysLocked e s (s.enterAwait d c f) := by
  unfold State.enterAwait
  split
  · exact State.moveSpan_staysLocked h ..
  · refine (State.moveSpan_staysLocked h ..).trans (State.settleInAwait_staysLocked ?_)
    rw [State.moveSpan_span, if_pos rfl, hf]
    split <;> exact nofun

theorem State.takeCut_staysLocked (d : Degree) (k : Key) : StaysLocked e s (s.takeCut d k) := by
  have hseen : StaysLocked e s (s.setSpan d ((s.span d).see d k true)) :=
    State.setSpan_staysLocked (Span.see_state ..)
  unfold State.takeCut
  refine hseen.trans ?_
  dsimp only
  split
  case h_1 hst => exact State.moveSpan_staysLocked (by rw [hst]; exact nofun) ..
  case h_2 hst | h_3 hst =>
    have hnot : ((s.setSpan d ((s.span d).see d k true)).span d).state ≠ .locked := by rw [hst]; exact nofun
    split
    · exact State.moveSpan_staysLocked hnot ..
    · exact State.moveSpan_staysLocked hnot ..
  all_goals exact .refl e _

theorem State.takeLock_staysLocked (d : Degree) (c : LockCause) : StaysLocked e s (s.takeLock d c) := by
  unfold State.takeLock
  split
  · split
    · exact State.setSpan_staysLocked rfl
    · exact .refl e s
  · next h => exact State.moveSpan_staysLocked h ..

theorem State.reexamine_staysLocked (s : State) (d : Degree) : StaysLocked e s (s.reexamine d) := by
  unfold State.reexamine
  dsimp only
  split
  · exact State.setSpan_staysLocked rfl
  · exact State.setSpan_staysLocked rfl
  · next hst _ _ => exact State.moveSpan_staysLocked (by rw [hst]; exact nofun) ..
  · exact State.setSpan_staysLocked rfl

theorem State.testConfirmation_staysLocked (d : Degree) (far : Option FarWord) :
    StaysLocked e s (s.testConfirmation d far) := by
  unfold State.testConfirmation
  split
  · next hc =>
    have hnot : (s.span d).state ≠ .locked := by rw [hc.1]; exact nofun
    split
    · exact State.moveSpan_staysLocked hnot ..
    · exact State.moveSpan_staysLocked hnot ..
  · exact .refl e s

theorem State.setRole_staysLocked (d : Degree) (far : Option FarWord) : StaysLocked e s (s.setRole d far) := by
  unfold State.setRole
  dsimp only
  have hrole : StaysLocked e s (s.setSpan d { s.span d with role := roleAgainst s.words.own far }) :=
    State.setSpan_staysLocked rfl
  split
  · next hc => exact hrole.trans (State.moveSpan_staysLocked (by rw [hc.1]; exact nofun) ..)
  · exact hrole

theorem State.takeSpanClear_staysLocked (k : Key) (w : DegSet) : StaysLocked e s (s.takeSpanClear k w) := by
  have hseen : StaysLocked e s (match k.degree with
      | some d => s.setSpan d ((s.span d).see d k false)
      | none => s) := by
    split
    · exact State.setSpan_staysLocked (Span.see_state ..)
    · exact .refl e s
  have hexamined := hseen.trans (StaysLocked.foldl State.reexamine_staysLocked (DegSet.toList w) _)
  unfold State.takeSpanClear
  dsimp only
  split
  · exact hexamined.trans (State.testConfirmation_staysLocked _ _)
  · exact hexamined

theorem State.takeFarWord_staysLocked (d : Degree) (w : FarWord) : StaysLocked e s (s.takeFarWord d w) := by
  have hwithdrawn : ∀ u : State, StaysLocked e u (u.withdrawOn d w) := fun u => by
    unfold State.withdrawOn
    split
    · exact State.setSpan_staysLocked rfl
    · exact .refl e u
  have hreplied : ∀ u : State, StaysLocked e u (u.replyProbe d w) := fun u => by
    unfold State.replyProbe
    split
    · next hc => exact State.moveSpan_staysLocked (by rw [hc.1]; exact nofun) ..
    · exact .refl e u
  have hrequested : ∀ u : State, StaysLocked e u (u.farRequest d w) := fun u => by
    unfold State.farRequest
    split
    · next hc => exact State.moveSpan_staysLocked (by rw [hc.1]; exact nofun) ..
    · exact .refl e u
  exact ((((State.setRole_staysLocked d _).trans (hwithdrawn _)).trans (hreplied _)).trans (hrequested _)).trans
    (State.testConfirmation_staysLocked d _)

theorem State.takeOrdinalChange_staysLocked (d : Degree) (b : Bool) : StaysLocked e s (s.takeOrdinalChange d b) := by
  unfold State.takeOrdinalChange
  split
  · exact (State.reexamine_staysLocked s d).trans (State.setRole_staysLocked d _)
  · exact State.setRole_staysLocked d _

theorem State.recomputeAll_staysLocked (s : State) (b : Bool) (l : List SourceNo) :
    StaysLocked e s (s.recomputeAll b l) := .of_ctrl (State.recomputeAll_side ..).ctrl

theorem State.stepRamp_staysLocked (h : (s.span d).state = .ramp) : StaysLocked e s (s.stepRamp d) := by
  unfold State.stepRamp
  dsimp only
  split
  · exact State.moveSpan_staysLocked (by rw [h]; exact nofun) ..
  · refine StaysLocked.trans ?_ (State.recomputeAll_staysLocked ..)
    exact State.setSpan_staysLocked rfl

theorem State.failProbe_staysLocked (h : (s.span d).state = .probe) : StaysLocked e s (s.failProbe d) := by
  have hnot : (s.span d).state ≠ .locked := by rw [h]; exact nofun
  unfold State.failProbe
  dsimp only
  split
  · exact State.moveSpan_staysLocked hnot ..
  · exact State.enterAwait_staysLocked hnot _ fun _ => rfl

theorem State.intervalInAwait_staysLocked (h : (s.span d).state = .await) :
    StaysLocked e s (s.intervalInAwait d) := by
  unfold State.intervalInAwait
  dsimp only
  split
  · split
    · exact State.moveSpan_staysLocked (by rw [h]; exact nofun) ..
    · exact State.setSpan_staysLocked rfl
    · exact State.setSpan_staysLocked rfl
  · exact State.setSpan_staysLocked rfl

theorem State.takeSetSpan_staysLocked (d : Byte) (c : RawSpanConfig) : StaysLocked e s (s.takeSetSpan d c).1 := by
  unfold State.takeSetSpan
  split
  · exact .refl e s
  · refine StaysLocked.trans ?_ (State.recomputeAll_staysLocked ..)
    exact State.setSpan_staysLocked rfl

theorem State.takeLockRequest_staysLocked (d : Byte) : StaysLocked e s (s.takeLockRequest d).1 := by
  unfold State.takeLockRequest
  split
  · exact .refl e s
  · exact State.takeLock_staysLocked _ _

/-! ### Commits -/

/-- A commit changes the spans its set names, each in its own change, and no other. -/
theorem State.commit_span {m : DegSet} (hm : m.getLsbD e = false) {f : State → Degree → State}
    (hf : ∀ u d, d ≠ e → (f u d).span e = u.span e) (p : Degree → Reason) (ok : Byte) :
    (s.commit m p f ok).1.span e = s.span e := by
  have hfold : ∀ (l : List Degree) (u : State), (∀ d ∈ l, d ≠ e) → (l.foldl f u).span e = u.span e := by
    intro l
    induction l with
    | nil => exact fun u _ => rfl
    | cons d l ih =>
      intro u hl
      obtain ⟨hd, hl⟩ := List.forall_mem_cons.mp hl
      exact (ih _ hl).trans (hf u d hd)
  have hspent : (s.endClaim .consumed).span e = s.span e := by
    rw [State.span, (State.endClaim_side s .consumed).ctrl, State.span]
  unfold State.commit
  dsimp only
  split
  · exact hspent
  · split
    · refine (hfold _ _ fun d hd hde => ?_).trans hspent
      rw [DegSet.toList, List.mem_filter, hde, hm] at hd
      exact Bool.false_ne_true hd.2
    · exact hspent

/-- A span commit that takes place names a set whose degrees all meet the precondition. -/
theorem State.spanCommit_staysLocked (n : Byte) (l : List Byte) {f : State → Degree → State}
    (hf : ∀ u d, d ≠ e → (f u d).span e = u.span e) {p : Degree → Reason}
    (hp : ∀ m, NamesDegrees n l m → m.getLsbD e = true → (s.span e).state = .locked → p e ≠ .pass) (ok : Byte) :
    StaysLocked e s (s.spanCommit n l p f ok).1 := by
  unfold State.spanCommit
  split
  · exact .refl e s
  · next m hm =>
    have hnames := (degrees?_eq_some n l m).mp hm
    cases he : m.getLsbD e with
    | false => exact .of_span (State.commit_span he hf p ok)
    | true =>
      have hspent : StaysLocked e s (s.endClaim .consumed) := .of_ctrl (State.endClaim_side s .consumed).ctrl
      unfold State.commit
      dsimp only
      split
      · exact hspent
      · split
        · next hall =>
          refine ⟨fun hl => absurd ?_ (hp m hnames he hl)⟩
          have hmem : e ∈ DegSet.toList m := List.mem_filter.mpr ⟨List.mem_finRange e, he⟩
          exact beq_iff_eq.mp (List.all_eq_true.mp hall _ (List.mem_map_of_mem hmem))
        · exact hspent

theorem State.release_span (c : SpanCause) (u : State) (h : d ≠ e) : (State.release c u d).span e = u.span e :=
  (State.moveSpan_span ..).trans (if_neg h)

theorem State.probeManually_span (ms : Nat) (u : State) (h : d ≠ e) :
    (State.probeManually ms u d).span e = u.span e :=
  (State.moveSpan_span ..).trans (if_neg h)

/-! ### All commands -/

theorem StaysLocked.serve {r : State × List Byte} (h : StaysLocked e s r.1) (i : Instr) :
    Answers (StaysLocked e s) (.next (State.serve i r)) :=
  .next (h.trans (.of_ctrl (State.answer_side ..).ctrl))

/-- Every command of the span controller but UNLOCK keeps a LOCKED span LOCKED. -/
theorem exec_staysLocked (s : State) (i : Instr) (hunlock : ∀ n l, i ≠ .unlock n l) (hpower : i ≠ .powerOnReset)
    (hsent : i ≠ .replySent) : Answers (StaysLocked e s) (exec i s) := by
  cases hi : movesSpans i with
  | false => exact fun t ht => .of_ctrl (exec_ctrl s i hi t ht)
  | true =>
    have htaken : ∀ (x : Transit) {t : State}, StaysLocked e { s with transit := x } t → StaysLocked e s t :=
      fun x t h => ⟨h.locked⟩
    cases i with
    | powerOnReset => exact absurd rfl hpower
    | replySent => exact absurd rfl hsent
    | unlock n l => exact absurd rfl (hunlock n l)
    | cutOrder =>
      simp only [exec, execCutOrder]
      split
      · exact .next (htaken _ (State.takeCut_staysLocked _ _))
      all_goals exact .next (.refl e s)
    | lockOrder =>
      simp only [exec, execLockOrder]
      split
      · exact .next (htaken _ (State.takeLock_staysLocked _ _))
      all_goals exact .next (.refl e s)
    | clearAtSpanController =>
      simp only [exec, execClearAtSpanController]
      split
      · exact .next (htaken _ (State.takeSpanClear_staysLocked _ _))
      all_goals exact .next (.refl e s)
    | blockerReexamination =>
      simp only [exec, execBlockerReexamination]
      split
      · exact .next (htaken _ (State.reexamine_staysLocked _ _))
      all_goals exact .next (.refl e s)
    | settleExpiry d =>
      simp only [exec, execSettleExpiry]
      split
      · next hd => exact .next (State.enterAwait_staysLocked (by rw [hd.2]; exact nofun) _ fun _ => rfl)
      · exact .next (.refl e s)
    | intervalExpiry d =>
      have hcleared : StaysLocked e s (s.setSpan d { s.span d with honoured := false }) :=
        State.setSpan_staysLocked rfl
      simp only [exec, execIntervalExpiry]
      split
      · split
        · exact .next (hcleared.trans (State.setSpan_staysLocked rfl))
        · next ha => exact .next (hcleared.trans (State.intervalInAwait_staysLocked (by simpa using ha)))
        all_goals exact .next (.refl e s)
      · exact .next (.refl e s)
    | probeTimerExpiry d =>
      simp only [exec, execProbeTimerExpiry]
      split
      · next hp =>
        have hnot : (s.span d).state ≠ .locked := by rw [hp.2]; exact nofun
        split
        · exact .next (State.moveSpan_staysLocked hnot ..)
        · exact .next (State.enterAwait_staysLocked hnot _ fun _ => rfl)
        all_goals exact .next (State.failProbe_staysLocked hp.2)
      · exact .next (.refl e s)
    | requestTimerExpiry d =>
      simp only [exec, execRequestTimerExpiry]
      split
      · exact .next (State.setSpan_staysLocked rfl)
      · exact .next (.refl e s)
    | rampStepExpiry d =>
      simp only [exec, execRampStepExpiry]
      split
      · next hr => exact .next (State.stepRamp_staysLocked hr.2)
      · exact .next (.refl e s)
    | farWordAtSpanController d =>
      simp only [exec, execFarWordAtSpanController]
      split
      · exact .next (htaken _ (State.takeFarWord_staysLocked d _))
      all_goals exact .next (.refl e s)
    | siteOrdinalChange d =>
      simp only [exec, execSiteOrdinalChange]
      split
      · exact .next (htaken _ (State.takeOrdinalChange_staysLocked d _))
      all_goals exact .next (.refl e s)
    | setSpan d c => exact (State.takeSetSpan_staysLocked d c).serve _
    | lock d => exact (State.takeLockRequest_staysLocked d).serve _
    | resume n l =>
      refine (refuseIllFormed_fst _ (.refl e s) (State.spanCommit_staysLocked n l
        (fun u _ h => State.release_span _ u h) (fun _ _ _ hl => ?_) _)).serve _
      simp [State.resumable, hl]
    | probeNow n t l =>
      refine (refuseIllFormed_fst _ (.refl e s) (State.spanCommit_staysLocked n l
        (fun u _ h => State.probeManually_span _ u h) (fun _ _ _ hl => ?_) _)).serve _
      simp [State.probeable, hl]
    | _ => cases hi

end

/-- Settles O9: UNLOCK by the set that it names, REPLY_SENT by whether the soft reset follows, and every other command
but the power-on reset by `exec_staysLocked`. -/
theorem lockedIsLeftByUnlockOrReset : Obligations.LockedIsLeftByUnlockOrReset := by
  intro i s t d hl ht
  by_cases hpower : i = .powerOnReset
  · exact .inr (.inr (.inl hpower))
  by_cases hsent : i = .replySent
  · subst hsent
    obtain ⟨-, hlight⟩ | ⟨⟨h, r, rest, hhand, hreset, hreplies, hbusy⟩, -⟩ :=
      execReplySent_stands_or_resets s t ht
    · exact .inl ((StaysLocked.of_ctrl hlight.2).locked hl)
    · obtain ⟨hkind, hpayload⟩ := (InHand.isResetPart_iff h).mp hreset
      exact .inr (.inr (.inr ⟨rfl, h, r, rest, hhand, hkind, hpayload, hreplies, hbusy⟩))
  by_cases hunlock : ∃ n l, i = .unlock n l
  · obtain ⟨n, l, rfl⟩ := hunlock
    by_cases hnames : ∃ m, NamesDegrees n l m ∧ m.getLsbD d = true
    · obtain ⟨m, hm, hd⟩ := hnames
      exact .inr (.inl ⟨n, l, m, rfl, hm, hd⟩)
    · have hstays : StaysLocked d s (s.takeUnlock n l).1 :=
        State.spanCommit_staysLocked n l (fun u _ h => State.release_span _ u h)
          (fun m hm hd _ => absurd ⟨m, hm, hd⟩ hnames) _
      exact .inl (((refuseIllFormed_fst _ (.refl d s) hstays).serve _ t ht).locked hl)
  · exact .inl ((exec_staysLocked s i (fun n l h => hunlock ⟨n, l, h⟩) hpower hsent t ht).locked hl)

end Sys2Proof.Machine
end

section
/-! O2. A step on an empty queue is one millisecond (notes/assumptions/1.md). -/

namespace Sys2Proof.Machine

/-- Settles O2, from the timers of each record after a millisecond (`State.tick_contact`, `State.tick_span`,
`State.tick_line`). -/
theorem anIdleStepIsOneMillisecond : Obligations.AnIdleStepIsOneMillisecond := by
  intro s h
  have hstep : step s = .next s.tick := by rw [step, h]
  exact ⟨s.tick, hstep, rfl, s.tick_contact, rfl, s.tick_span, s.tick_line, rfl, rfl, rfl, rfl⟩

end Sys2Proof.Machine
end

section
/-! SUPPORT, O39 and O40. The record that a state change into DARK, PROBE, HELD or LOCKED writes (R83, R84, R96, R111), field
by field; a cut order (R89) and a lock order (R90, R91). -/

namespace Sys2Proof.Machine

/-! ### The records of a state change -/

theorem Span.enter_dark_eq (r : Span) (c : SpanCause) (b : Bool) : (r.enter .dark c).darken b = { r with
    state := .dark, cause := c, asserting := if r.state = .await then false else r.asserting,
    remaining := if r.state = .ramp then 0 else r.remaining,
    settle := if b then none else some r.config.settleTime, interval := some (r.config.restartInterval * 1000),
    probeTimer := none, rampTimer := none, request := none, view := if b then .notEmpty else .empty,
    origin := if r.state = .probe then none else r.origin, changes := r.changes + 1 } := by
  cases hs : r.state <;> simp [Span.enter, Span.darken, hs, keepIf, SpanConfig.intervalMs, viewOf]

theorem Span.enter_shut_eq (r : Span) {n : SpanState} (hn : n = .held ∨ n = .locked) (c : SpanCause) :
    r.enter n c = { r with
      state := n, cause := c, asserting := if r.state = .await then false else r.asserting,
      remaining := if r.state = .ramp then 0 else r.remaining, settle := none, interval := none, probeTimer := none,
      rampTimer := none, request := none, origin := if r.state = .probe then none else r.origin,
      changes := r.changes + 1 } := by
  obtain rfl | rfl := hn <;> cases hs : r.state <;> simp [Span.enter, hs, keepIf]

theorem Span.enter_probe_eq (r : Span) (c : SpanCause) (o : ProbeOrigin) (ms : Nat) :
    (r.enter .probe c).startProbe o ms = { r with
      state := .probe, cause := c, asserting := if r.state = .await then false else r.asserting,
      remaining := if r.state = .ramp then 0 else r.remaining, settle := none, interval := none,
      probeTimer := some ms, rampTimer := none, request := none, origin := some o, changes := r.changes + 1 } := by
  cases hs : r.state <;> simp [Span.enter, Span.startProbe, hs, keepIf]

/-! ### The condition view (R81) -/

theorem degreeKey_inj {k l : Kind} {d : Degree} : degreeKey k d = degreeKey l d ↔ k = l :=
  ⟨fun h => congrArg Key.kind h, fun h => h ▸ rfl⟩

theorem Span.see_eq (r : Span) (d : Degree) (k : Key) (b : Bool) : r.see d k b = { r with
    seenDark := if k = degreeKey .darkIn d then b else r.seenDark
    seenShut := if k = degreeKey .farShut d then b else r.seenShut
    seenMiswire := if k = degreeKey .miswire d then b else r.seenMiswire } := by
  unfold Span.see
  split_ifs <;> simp_all [degreeKey_inj]

/-- The view of degree `d` sees the condition of key `k` too, where it is one of the three. -/
theorem Span.see_true_eq (r : Span) (d : Degree) (k : Key) : r.see d k true = { r with
    seenDark := decide (k = degreeKey .darkIn d) || r.seenDark
    seenShut := decide (k = degreeKey .farShut d) || r.seenShut
    seenMiswire := decide (k = degreeKey .miswire d) || r.seenMiswire } := by
  rw [Span.see_eq]
  congr 1 <;> split_ifs <;> simp_all

/-- The view of degree `d` loses the condition of key `k`. -/
theorem Span.see_false_eq (r : Span) (d : Degree) (k : Key) : r.see d k false = { r with
    seenDark := r.seenDark && !decide (k = degreeKey .darkIn d)
    seenShut := r.seenShut && !decide (k = degreeKey .farShut d)
    seenMiswire := r.seenMiswire && !decide (k = degreeKey .miswire d) } := by
  rw [Span.see_eq]
  congr 1 <;> split_ifs <;> simp_all

/-! ### A cut order (R89) -/

/-- `s` once the span controller has taken the oldest event handed to it. -/
def State.spanTaken (s : State) (rest : List SpanEvent) : State :=
  { s with transit := { s.transit with toSpan := rest } }

section
variable {u : State} {d : Degree} {v : Span} (hu : u.span d = v) (k : Key)
include hu

theorem State.cut_lit (hv : v.state = .lit) : SpanChange u d
    { v with
      state := .dark, cause := .cut, settle := if u.blocked d then none else some v.config.settleTime,
      interval := some (v.config.restartInterval * 1000), probeTimer := none, rampTimer := none, request := none,
      view := if u.blocked d then .notEmpty else .empty, changes := v.changes + 1 } (some k)
    (u.enterDark d .cut id (some k)) := by
  have h := u.enterDark_change d .cut id (some k) rfl rfl
  rw [id, Span.enter_dark_eq, hu, hv] at h
  exact h

theorem State.cut_failed (hv : v.state = .ramp ∨ v.state = .probe) (n : Nat) : SpanChange u d
    { v with
      state := .dark, cause := .cut, failed := n, remaining := if v.state = .ramp then 0 else v.remaining,
      settle := if u.blocked d then none else some v.config.settleTime,
      interval := some (v.config.restartInterval * 1000), probeTimer := none, rampTimer := none, request := none,
      view := if u.blocked d then .notEmpty else .empty, origin := if v.state = .probe then none else v.origin,
      changes := v.changes + 1 } (some k)
    (u.enterDark d .cut (fun r => { r with failed := n }) (some k)) := by
  have h := u.enterDark_change d .cut (fun r => { r with failed := n }) (some k) rfl rfl
  have ha : v.state ≠ .await := by obtain hv | hv := hv <;> rw [hv] <;> exact nofun
  rw [Span.enter_dark_eq, hu, if_neg ha] at h
  exact h

theorem State.cut_exhausted (hv : v.state = .ramp ∨ v.state = .probe) (n : Nat) : SpanChange u d
    { v with
      state := .held, cause := .exhausted, failed := n, remaining := if v.state = .ramp then 0 else v.remaining,
      settle := none, interval := none, probeTimer := none, rampTimer := none, request := none,
      origin := if v.state = .probe then none else v.origin, changes := v.changes + 1 } (some k)
    (u.moveSpan d .held .exhausted (fun r => { r with failed := n }) (some k)) := by
  have h := u.moveSpan_change d .held .exhausted (fun r => { r with failed := n }) (some k) rfl rfl
  have ha : v.state ≠ .await := by obtain hv | hv := hv <;> rw [hv] <;> exact nofun
  rw [Span.enter_shut_eq _ (.inl rfl), hu, if_neg ha] at h
  exact h

end

section
variable {s u : State} {d : Degree} {k : Key} (hu : u = s.setSpan d ((s.span d).see d k true))
include hu

omit hu in
theorem execCutOrder_taken {rest : List SpanEvent} (h : s.transit.toSpan = .cut d k :: rest) :
    exec .cutOrder s = .next ((s.spanTaken rest).takeCut d k) := by
  simp only [exec, execCutOrder, h, State.spanTaken]

theorem State.takeCut_of_lit (h : (u.span d).state = .lit) : s.takeCut d k = u.enterDark d .cut id (some k) := by
  simp only [State.takeCut, ← hu, h]

theorem State.takeCut_of_failed (h : (u.span d).state = .ramp ∨ (u.span d).state = .probe) :
    s.takeCut d k = if (u.span d).config.probeLimit ≤ countUp (u.span d).failed then
      u.moveSpan d .held .exhausted (fun r => { r with failed := countUp (u.span d).failed }) (some k)
    else u.enterDark d .cut (fun r => { r with failed := countUp (u.span d).failed }) (some k) := by
  obtain h | h := h <;> simp only [State.takeCut, ← hu, h]

theorem State.takeCut_of_dark (h : (u.span d).state = .await ∨ (u.span d).state = .dark ∨ (u.span d).state = .held ∨
    (u.span d).state = .locked) : s.takeCut d k = u := by
  obtain h | h | h | h := h <;> simp only [State.takeCut, ← hu, h]

end

/-- Settles O39, by the state of the span. -/
theorem aCutOrderIsTaken : Obligations.ACutOrderIsTaken := by
  intro d k rest s hcut
  have hu : (s.spanTaken rest).setSpan d ((s.span d).see d k true) =
    (s.spanTaken rest).setSpan d (((s.spanTaken rest).span d).see d k true) := rfl
  refine ⟨_, (s.span d).see d k true, (s.spanTaken rest).setSpan d ((s.span d).see d k true),
    countUp ((s.span d).see d k true).failed, execCutOrder_taken hcut, Span.see_true_eq .., rfl, rfl, fun hv => ?_, fun hv =>
    ⟨fun hn => ?_, fun hn => ?_⟩, fun hv => ?_⟩
  · rw [State.takeCut_of_lit hu (by simpa using hv)]
    exact State.cut_lit (State.span_setSpan_same ..) k hv
  · rw [State.takeCut_of_failed hu (by simpa using hv), State.span_setSpan_same, if_neg (not_le.mpr hn)]
    exact State.cut_failed (State.span_setSpan_same ..) k hv _
  · rw [State.takeCut_of_failed hu (by simpa using hv), State.span_setSpan_same, if_pos hn]
    exact State.cut_exhausted (State.span_setSpan_same ..) k hv _
  · exact State.takeCut_of_dark hu (by simpa using hv)

/-! ### A lock order (R90), and LOCK (R91) -/

/-- The record of a span that a lock order locks. -/
def Span.toLocked (r : Span) (c : SpanCause) : Span := { r with
  state := .locked, cause := c, asserting := if r.state = .await then false else r.asserting,
  remaining := if r.state = .ramp then 0 else r.remaining, settle := none, interval := none, probeTimer := none,
  rampTimer := none, request := none, origin := if r.state = .probe then none else r.origin,
  changes := r.changes + 1 }

section
variable {s : State} {d : Degree}

theorem State.takeLock_changes (h : (s.span d).state ≠ .locked) (c : LockCause) :
    SpanChange s d ((s.span d).toLocked c.spanCause) none (s.takeLock d c) := by
  have hmove := s.moveSpan_change d .locked c.spanCause id none rfl rfl
  rw [id, Span.enter_shut_eq _ (.inr rfl)] at hmove
  unfold State.takeLock
  rwa [if_neg h]

theorem State.takeLock_key (h : (s.span d).state = .locked) :
    s.takeLock d .key = s.setSpan d { s.span d with cause := .key } := if_pos h

theorem State.takeLock_command (h : (s.span d).state = .locked) : s.takeLock d .command = s := if_pos h

theorem execLockOrder_taken {c : LockCause} {rest : List SpanEvent} (h : s.transit.toSpan = .lock d c :: rest) :
    exec .lockOrder s = .next ((s.spanTaken rest).takeLock d c) := by
  simp only [exec, execLockOrder, h, State.spanTaken]

theorem State.takeLockRequest_at (s : State) (d : Degree) :
    s.takeLockRequest (BitVec.ofNat 8 d.val) = (s.takeLock d .command, [codeOk]) := by
  rw [State.takeLockRequest, index?_ofNat (by decide)]

end

/-- Settles O40, by whether the span is LOCKED. -/
theorem aLockOrderIsTaken : Obligations.ALockOrderIsTaken := by
  intro d rest s
  refine ⟨fun h => ⟨fun hl => ?_, fun hl => ?_⟩, fun h => ⟨fun hl => ?_, fun hl => ?_⟩, ?_⟩
  · exact (execLockOrder_taken h).trans (congrArg _ (State.takeLock_key (s := s.spanTaken rest) hl))
  · exact ⟨_, execLockOrder_taken h, State.takeLock_changes (s := s.spanTaken rest) hl .key⟩
  · exact (execLockOrder_taken h).trans (congrArg _ (State.takeLock_command (s := s.spanTaken rest) hl))
  · exact ⟨_, execLockOrder_taken h, State.takeLock_changes (s := s.spanTaken rest) hl .command⟩
  · rintro _ rfl
    refine ⟨fun hl => ?_, fun hl => ⟨_, serve_answer _ (s.takeLockRequest_at d), State.takeLock_changes hl .command⟩⟩
    have hreply := s.takeLockRequest_at d
    rw [State.takeLock_command hl] at hreply
    exact serve_answer _ hreply

end Sys2Proof.Machine
end

section
/-! O41 and O42. A re-examination of the blocker set (R92, R93), a clear at the span controller (R81, R112), and the expiry
of the settle and of the interval timer (R94, R103, R104, R106). -/

namespace Sys2Proof.Machine

variable {s : State} {d : Degree}

/-! ### The blocker set (R92) and its re-examination (R93) -/

theorem State.blocked_iff (s : State) (d : Degree) :
    s.blocked d = true ↔ s.words.own = 0 ∨ ∃ r ∈ s.cond.active, r.withheld.getLsbD d = true := by
  simp [State.blocked, State.noOrdinal, State.blockerKeys]

theorem State.reexamine_stops (hst : (s.span d).state = .dark) (hv : (s.span d).view = .empty)
    (hb : s.blocked d = true) : s.reexamine d = s.setSpan d { s.span d with settle := none, view := .notEmpty } := by
  simp only [State.reexamine, hst, hv, hb]

theorem State.reexamine_starts (hst : (s.span d).state = .dark) (hv : (s.span d).view = .notEmpty)
    (hb : s.blocked d = false) : s.reexamine d =
      s.setSpan d { s.span d with settle := some (s.span d).config.settleTime, view := .empty } := by
  simp only [State.reexamine, hst, hv, hb]

theorem State.reexamine_blocks (hst : (s.span d).state = .await) (hv : (s.span d).view = .empty)
    (hb : s.blocked d = true) : SpanChange s d
      { s.span d with
        state := .dark, cause := .blocked, asserting := false, settle := none,
        interval := some ((s.span d).config.restartInterval * 1000), probeTimer := none, rampTimer := none,
        request := none, view := .notEmpty, changes := (s.span d).changes + 1 } none (s.reexamine d) := by
  have h := s.enterDark_change d .blocked id none rfl rfl
  rw [id, Span.enter_dark_eq, hst, hb] at h
  unfold State.reexamine
  simp only [hst, hv, hb]
  exact h

theorem State.reexamine_reads (h : (s.span d).state ≠ .dark ∧ (s.span d).state ≠ .await ∨
      ((s.span d).view = .empty ↔ s.blocked d = false) ∨ ((s.span d).state = .await ∧ s.blocked d = false)) :
    s.reexamine d = s.setSpan d { s.span d with view := if s.blocked d then .notEmpty else .empty } := by
  unfold State.reexamine
  dsimp only
  split <;> simp_all [viewOf]

/-! ### A clear at the span controller (R81) -/

/-- `s` once no condition view sees the condition of key `k`. -/
def State.unseen (s : State) (k : Key) : State :=
  k.degree.elim s fun d => s.setSpan d ((s.span d).see d k false)

theorem State.unseen_frame (s : State) (k : Key) : s.unseen k = { s with ctrl := (s.unseen k).ctrl } := by
  unfold State.unseen
  cases k.degree <;> rfl

theorem State.unseen_span (s : State) (k : Key) (d : Degree) : (s.unseen k).span d = { s.span d with
    seenDark := (s.span d).seenDark && !decide (k = degreeKey .darkIn d)
    seenShut := (s.span d).seenShut && !decide (k = degreeKey .farShut d)
    seenMiswire := (s.span d).seenMiswire && !decide (k = degreeKey .miswire d) } := by
  rw [← Span.see_false_eq]
  have hother : k.degree ≠ some d → (s.span d).see d k false = s.span d := fun h => by
    have hk : ∀ n, k ≠ degreeKey n d := fun n e => h (e ▸ rfl)
    rw [Span.see_eq, if_neg (hk _), if_neg (hk _), if_neg (hk _)]
  unfold State.unseen
  cases hd : k.degree with
  | none => exact (hother (by simp [hd])).symm
  | some e =>
    refine (setSpan_span ..).trans ?_
    split
    · next he => rw [he]
    · next he => exact (hother (by simpa [hd] using he)).symm

theorem execClearAtSpanController_taken {k : Key} {w : DegSet} {rest : List SpanEvent}
    (h : s.transit.toSpan = .clear k w :: rest) :
    exec .clearAtSpanController s = .next ((s.spanTaken rest).takeSpanClear k w) := by
  simp only [exec, execClearAtSpanController, h, State.spanTaken]

theorem State.takeSpanClear_untested {k : Key} (h : testsConfirmation k = none) (w : DegSet) :
    s.takeSpanClear k w = (DegSet.toList w).foldl State.reexamine (s.unseen k) := by
  unfold State.takeSpanClear State.unseen
  rw [h]
  cases k.degree <;> rfl

theorem State.takeSpanClear_tested {k : Key} (h : testsConfirmation k = some d) (w : DegSet) :
    s.takeSpanClear k w =
      ((DegSet.toList w).foldl State.reexamine (s.unseen k)).testConfirmation d (s.line d).far := by
  have hwords : ((DegSet.toList w).foldl State.reexamine (s.unseen k)).words = s.words := by
    refine (CtrlSide.foldl State.reexamine_side _ _).words.trans ?_
    rw [State.unseen_frame]
  have hline : ((DegSet.toList w).foldl State.reexamine (s.unseen k)).line d = s.line d := by
    rw [State.line, hwords, State.line]
  rw [← hline]
  unfold State.takeSpanClear State.unseen
  rw [h]
  cases k.degree <;> rfl

theorem testsConfirmation_eq_none {k : Key} (hd : k.kind ≠ .darkIn) (hs : k.kind ≠ .farShut) :
    testsConfirmation k = none := by
  unfold testsConfirmation
  split <;> first | rfl | contradiction

theorem testsConfirmation_of_degreeKey {k : Key} (h : k = degreeKey .darkIn d ∨ k = degreeKey .farShut d) :
    testsConfirmation k = some d := by
  obtain rfl | rfl := h <;> rfl

/-- Settles O41: a re-examination by what the set was and is, and a clear by whether its kind tests the confirmation. -/
theorem clearsAndReexaminationsAtTheSpanController : Obligations.ClearsAndReexaminationsAtTheSpanController := by
  intro rest s
  refine ⟨s.blocked_iff, fun d h => ?_, fun k w h => ?_⟩
  · have hnext : exec .blockerReexamination s = .next ((s.spanTaken rest).reexamine d) := by
      simp only [exec, execBlockerReexamination, h, State.spanTaken]
    exact ⟨_, _, hnext, rfl, rfl, fun ⟨hst, hv, hb⟩ => State.reexamine_stops (s := s.spanTaken rest) hst hv hb,
      fun ⟨hst, hv, hb⟩ => State.reexamine_starts (s := s.spanTaken rest) hst hv hb,
      fun ⟨hst, hv, hb⟩ => State.reexamine_blocks (s := s.spanTaken rest) hst hv hb,
      fun h => State.reexamine_reads (s := s.spanTaken rest) h⟩
  · refine ⟨_, (s.spanTaken rest).unseen k, _, execClearAtSpanController_taken h, State.unseen_frame .., 
      State.unseen_span (s.spanTaken rest) k, rfl, fun hd hs => ?_, fun d hk => ?_⟩
    · exact State.takeSpanClear_untested (testsConfirmation_eq_none hd hs) w
    · rw [State.takeSpanClear_tested (testsConfirmation_of_degreeKey hk)]
      exact State.testConfirmation_tested ..

/-! ### The settle timer (R94) and the interval timer (R103, R104) -/

theorem awaitRecord_of_dark {r : Span} (h : r.state = .dark) (c : SpanCause) :
    awaitRecord r c r.failed = { r with
      state := .await, cause := c, settle := none, probeTimer := none, rampTimer := none,
      changes := r.changes + 1 } := by
  simp [awaitRecord, h]

theorem State.setSpan_setSpan (s : State) (d : Degree) (a b : Span) : (s.setSpan d a).setSpan d b = s.setSpan d b := by
  have hput : put (put s.ctrl.spans d a) d b = put s.ctrl.spans d b := look_ext fun e => by
    by_cases h : d = e <;> simp [look_put, h]
  exact congrArg (fun v => { s with ctrl := { spans := v } }) hput

/-- A state change over a record just written that keeps the state is the state change of what stood before. -/
theorem SpanChange.of_setSpan {x r : Span} {k : Option Key} {t : State} (h : SpanChange (s.setSpan d x) d r k t)
    (hx : x.state = (s.span d).state) : SpanChange s d r k t where
  record := h.record
  others e he := (h.others e he).trans ((setSpan_span ..).trans (if_neg he.symm))
  exposed := h.exposed
  unexposed := h.unexposed
  reports := by
    have hreports := h.reports
    rw [State.span_setSpan_same, hx] at hreports
    exact hreports
  forced := h.forced
  triggers := by
    have htriggers := h.triggers
    rw [State.span_setSpan_same, hx] at htriggers
    exact htriggers
  toClaim := h.toClaim
  frame := h.frame

/-- An entry into an automatic probe from AWAIT, which leaves the request-honoured mark at `b` (R109, R111). -/
theorem State.enterProbe_await (hst : (s.span d).state = .await) (c : SpanCause) {f : Span → Span} {b : Bool}
    (hf : ∀ r : Span, r.honoured = (s.span d).honoured → f r = { r with honoured := b }) : SpanChange s d
    { s.span d with
      state := .probe, cause := c, honoured := b, asserting := false, settle := none, interval := none,
      probeTimer := some ((s.span d).config.probeTime * 100), rampTimer := none, request := none,
      origin := some .automatic, changes := (s.span d).changes + 1 } none (s.enterProbe d c f) := by
  have hrecord : f (((s.span d).enter .probe c).startProbe .automatic (s.span d).config.probeMs) =
      { ((s.span d).enter .probe c).startProbe .automatic (s.span d).config.probeMs with honoured := b } := hf _ rfl
  have h := s.moveSpan_change d .probe c (fun r => f (r.startProbe .automatic r.config.probeMs)) none
    (congrArg Span.state hrecord) (congrArg Span.cause hrecord)
  rw [show f (((s.span d).enter .probe c).startProbe .automatic ((s.span d).enter .probe c).config.probeMs) = _ from
    hrecord, Span.enter_probe_eq, hst] at h
  exact h

/-- The record of an interval timer that is loaded again (R103, R104). -/
def Span.reloaded (r : Span) : Span :=
  { r with honoured := false, interval := some (r.config.restartInterval * 1000) }

/-- The record whose request-honoured mark an interval expiry has cleared (R103). -/
def Span.unhonoured (r : Span) : Span := { r with honoured := false }

theorem execIntervalExpiry_dark (ht : (s.span d).interval = some 0) (hst : (s.span d).state = .dark) :
    exec (.intervalExpiry d) s = .next (s.setSpan d (s.span d).reloaded) := by
  simp only [exec, execIntervalExpiry, if_pos ht]
  split
  case h_1 =>
    rw [State.setSpan_setSpan, State.span_setSpan_same]
    rfl
  all_goals next h => cases hst.symm.trans h

/-- What an interval expiry does in AWAIT, but that it clears the request-honoured mark (R104). -/
theorem execIntervalExpiry_await (ht : (s.span d).interval = some 0) (hst : (s.span d).state = .await) :
    exec (.intervalExpiry d) s =
      .next ((s.setSpan d (s.span d).unhonoured).intervalInAwait d) := by
  simp only [exec, execIntervalExpiry, if_pos ht]
  split
  case h_2 => rfl
  all_goals next h => cases hst.symm.trans h

theorem State.intervalInAwait_leading (ha : (s.limits d).autoRestart = true) (hr : (s.span d).role = .leading) :
    s.intervalInAwait d = s.enterProbe d .interval id := by
  simp only [State.intervalInAwait, if_pos ha, hr]

theorem State.intervalInAwait_trailing (ha : (s.limits d).autoRestart = true) (hr : (s.span d).role = .trailing) :
    s.intervalInAwait d = s.setSpan d { s.span d with
      interval := some (s.span d).config.intervalMs, asserting := true, request := some 5000 } := by
  simp only [State.intervalInAwait, if_pos ha]
  split
  case h_2 => rfl
  all_goals next h => cases hr.symm.trans h

theorem State.intervalInAwait_silent (h : (s.limits d).autoRestart = false ∨ (s.span d).role = .unknown) :
    s.intervalInAwait d = s.setSpan d { s.span d with interval := some (s.span d).config.intervalMs } := by
  unfold State.intervalInAwait
  dsimp only
  split
  · next ha =>
    have hr := h.resolve_left (by simp [ha])
    split
    case h_3 => rfl
    all_goals next h => cases hr.symm.trans h
  · rfl

/-- Settles O42: an expiry that does not happen changes nothing; in DARK and AWAIT by the role and the switch. -/
theorem settleAndIntervalExpiries : Obligations.SettleAndIntervalExpiries := by
  intro d s
  have hsame : (s.setSpan d (s.span d).unhonoured).span d = (s.span d).unhonoured := State.span_setSpan_same ..
  refine ⟨fun h => ?_, fun ht hst => ?_, fun h => ?_, fun ht hst => execIntervalExpiry_dark ht hst, fun ht hst =>
    ⟨fun ⟨ha, hr⟩ => ⟨_, execIntervalExpiry_await ht hst, ?_⟩, fun ⟨ha, hr⟩ =>
      (execIntervalExpiry_await ht hst).trans ?_, fun h => (execIntervalExpiry_await ht hst).trans ?_⟩⟩
  · exact if_neg fun hexp => h.elim (· hexp.1) (· hexp.2)
  · have henter := s.enterAwait_kept d .settled (.inl hst)
    rw [awaitRecord_of_dark hst] at henter
    exact ⟨_, if_pos ⟨ht, hst⟩, henter⟩
  · simp only [exec, execIntervalExpiry]
    split
    · next ht =>
      obtain ⟨hdark, hawait⟩ := h.resolve_left (not_not_intro ht)
      split <;> first | rfl | contradiction
    · rfl
  · rw [State.intervalInAwait_leading (s := s.setSpan d _) ha (by rw [hsame]; exact hr)]
    have hprobe := State.enterProbe_await (s := s.setSpan d (s.span d).unhonoured) (d := d)
      (by rw [hsame]; exact hst) .interval (f := id) (b := false) fun r hr => by
        rw [hsame] at hr
        rw [← show r.honoured = false from hr]
        rfl
    rw [hsame] at hprobe
    exact hprobe.of_setSpan rfl
  · rw [State.intervalInAwait_trailing (s := s.setSpan d _) ha (by rw [hsame]; exact hr), State.setSpan_setSpan, hsame]
    rfl
  · rw [State.intervalInAwait_silent (s := s.setSpan d _) (by rw [hsame]; exact h), State.setSpan_setSpan, hsame]
    rfl

end Sys2Proof.Machine
end

section
/-! O44. A far word at the span controller in the five steps of R108 (R88, R95, R107, R109 to R113), and a change of the own
ordinal (R132). -/

namespace Sys2Proof.Machine

variable {s : State} {d : Degree}

/-! ### The role (R88) and the role clash (R95) -/

theorem roleAgainst_some (own : Ordinal) (w : FarWord) :
    (roleAgainst own (some w) = .leading ↔ own < w.ordinal) ∧
      (roleAgainst own (some w) = .trailing ↔ w.ordinal < own) ∧
      (roleAgainst own (some w) = .unknown ↔ w.ordinal = own) := by
  unfold roleAgainst
  dsimp only
  split_ifs <;> simp only [true_iff, false_iff] <;> bv_omega

/-- The record with the role that a far word, or its absence, gives it (R88). -/
def Span.withRole (r : Span) (own : Ordinal) (far : Option FarWord) : Span := { r with role := roleAgainst own far }

/-- The record of a span in AWAIT that a role clash takes to HELD (R95). -/
def Span.clashed (r : Span) : Span := { r with
  state := .held, cause := .roleClash, asserting := false, settle := none, interval := none, probeTimer := none,
  rampTimer := none, request := none, changes := r.changes + 1 }

theorem State.setRole_clash {far : Option FarWord} (hst : (s.span d).state = .await)
    (hc : ordinalsClash s.words.own far = true) : SpanChange (s.setSpan d ((s.span d).withRole s.words.own far)) d
      ((s.span d).withRole s.words.own far).clashed none (s.setRole d far) := by
  have hsame : (s.setSpan d ((s.span d).withRole s.words.own far)).span d = (s.span d).withRole s.words.own far :=
    State.span_setSpan_same ..
  have hw : ((s.span d).withRole s.words.own far).state = .await := hst
  have h := (s.setSpan d ((s.span d).withRole s.words.own far)).moveSpan_change d .held .roleClash id none rfl rfl
  rw [id, Span.enter_shut_eq _ (.inl rfl), hsame, hw] at h
  have hmove : s.setRole d far =
      (s.setSpan d ((s.span d).withRole s.words.own far)).moveSpan d .held .roleClash id none :=
    if_pos ⟨(congrArg Span.state hsame).trans hst, hc⟩
  rw [hmove]
  exact h

theorem State.setRole_stays {far : Option FarWord}
    (h : (s.span d).state ≠ .await ∨ ordinalsClash s.words.own far = false) :
    s.setRole d far = s.setSpan d ((s.span d).withRole s.words.own far) :=
  if_neg fun ⟨hst, hc⟩ => h.elim (fun h => h (by rw [State.span_setSpan_same] at hst; exact hst))
    (fun h => Bool.false_ne_true (h.symm.trans hc))

theorem ordinalsClash_some (own : Ordinal) (w : FarWord) : ordinalsClash own (some w) = true ↔ w.ordinal = own :=
  beq_iff_eq.trans eq_comm

/-! ### Steps 2 to 4 of R108 -/

/-- The record after step 2 of R108: a word that carries PROBING withdraws a standing request (R107). -/
def Span.withdrawnOn (r : Span) (w : FarWord) : Span :=
  if w.probing = true ∧ r.asserting = true then { r with asserting := false, request := none } else r

theorem State.setSpan_self (s : State) (d : Degree) : s.setSpan d (s.span d) = s := by
  rw [State.setSpan, State.span, put_look]

theorem State.withdrawOn_eq (s : State) (d : Degree) (w : FarWord) :
    s.withdrawOn d w = s.setSpan d ((s.span d).withdrawnOn w) := by
  unfold State.withdrawOn Span.withdrawnOn
  by_cases h : w.probing = true ∧ (s.span d).asserting = true
  · rw [if_pos h, if_pos (by simpa using h)]
    rfl
  · rw [if_neg h, if_neg (by simpa using h), s.setSpan_self]

/-- The record of an automatic probe begun in AWAIT, with the request-honoured mark `b` (R109 to R111). -/
def Span.probing (r : Span) (c : SpanCause) (b : Bool) : Span := { r with
  state := .probe, cause := c, honoured := b, asserting := false, settle := none, interval := none,
  probeTimer := some (r.config.probeTime * 100), rampTimer := none, request := none, origin := some .automatic,
  changes := r.changes + 1 }

theorem Span.withdrawnOn_probing (r : Span) (w : FarWord) (c : SpanCause) (b : Bool) :
    (r.withdrawnOn w).probing c b = r.probing c b := by
  unfold Span.withdrawnOn
  split <;> rfl

/-- The span replies to a probe of the far end (R110). -/
def State.Replies (s : State) (d : Degree) (w : FarWord) : Prop := w.probing = true ∧ (s.span d).seenDark = false

/-- The span honours a request of the far end (R109). -/
def State.Honours (s : State) (d : Degree) (w : FarWord) : Prop :=
  w.probeReq = true ∧ (s.span d).role = .leading ∧ (s.limits d).autoRestart = true ∧ (s.span d).honoured = false

/-- Steps 2 to 4 of R108. -/
def State.takeFlags (s : State) (d : Degree) (w : FarWord) : State :=
  ((s.withdrawOn d w).replyProbe d w).farRequest d w

theorem State.replyProbe_replies {w : FarWord} (hst : (s.span d).state = .await) (h : s.Replies d w) :
    s.replyProbe d w = s.enterProbe d .farProbe id :=
  if_pos ⟨hst, h.1, by rw [h.2]; rfl⟩

theorem State.replyProbe_stays {w : FarWord} (h : (s.span d).state = .await → ¬s.Replies d w) :
    s.replyProbe d w = s :=
  if_neg fun ⟨hst, hp, hd⟩ => h hst ⟨hp, Bool.not_eq_true' _ |>.mp hd⟩

theorem State.farRequest_honours {w : FarWord} (hst : (s.span d).state = .await) (h : s.Honours d w) :
    s.farRequest d w = s.enterProbe d .farRequest fun r => { r with honoured := true } := by
  obtain ⟨hreq, hrole, hauto, hnot⟩ := h
  exact if_pos ⟨hst, hreq, hrole, hauto, by rw [hnot]; rfl⟩

theorem State.farRequest_stays {w : FarWord} (h : (s.span d).state = .await → ¬s.Honours d w) :
    s.farRequest d w = s :=
  if_neg fun ⟨hst, hreq, hrole, hauto, hnot⟩ => h hst ⟨hreq, hrole, hauto, Bool.not_eq_true' _ |>.mp hnot⟩

/-- What steps 3 and 4 read stands as before step 2. -/
theorem State.withdrawOn_reads (s : State) (d : Degree) (w : FarWord) :
    ((s.withdrawOn d w).span d).state = (s.span d).state ∧ ((s.withdrawOn d w).Replies d w ↔ s.Replies d w) ∧
      ((s.withdrawOn d w).Honours d w ↔ s.Honours d w) := by
  have hlimits : (s.withdrawOn d w).limits d = s.limits d := by rw [State.withdrawOn_eq]; rfl
  unfold State.Replies State.Honours
  rw [hlimits, State.withdrawOn_eq, State.span_setSpan_same, Span.withdrawnOn]
  split <;> exact ⟨rfl, .rfl, .rfl⟩

theorem State.takeFlags_stays {w : FarWord}
    (h : (s.span d).state ≠ .await ∨ (¬s.Replies d w ∧ ¬s.Honours d w)) :
    s.takeFlags d w = s.setSpan d ((s.span d).withdrawnOn w) := by
  obtain ⟨hstate, hreplies, hhonours⟩ := s.withdrawOn_reads d w
  unfold State.takeFlags
  rw [State.replyProbe_stays, State.farRequest_stays, State.withdrawOn_eq]
  · rw [hstate, hhonours]
    exact fun hst => (h.resolve_left (not_not_intro hst)).2
  · rw [hstate, hreplies]
    exact fun hst => (h.resolve_left (not_not_intro hst)).1

/-- A probe that begins after step 2 is the same state change of what stood before it. -/
theorem State.withdrawOn_enterProbe {w : FarWord} (hst : (s.span d).state = .await) (c : SpanCause) {f : Span → Span}
    {b : Bool} (hf : ∀ r : Span, r.honoured = (s.span d).honoured → f r = { r with honoured := b }) :
    SpanChange s d ((s.span d).probing c b) none ((s.withdrawOn d w).enterProbe d c f) := by
  have hspan : (s.withdrawOn d w).span d = (s.span d).withdrawnOn w := by
    rw [State.withdrawOn_eq, State.span_setSpan_same]
  have hstate := (s.withdrawOn_reads d w).1
  have hhonoured : ((s.span d).withdrawnOn w).honoured = (s.span d).honoured := by
    unfold Span.withdrawnOn
    split <;> rfl
  have hprobe : SpanChange (s.withdrawOn d w) d (((s.withdrawOn d w).span d).probing c b) none
      ((s.withdrawOn d w).enterProbe d c f) :=
    State.enterProbe_await (hstate.trans hst) c (by rw [hspan, hhonoured]; exact hf)
  rw [hspan, Span.withdrawnOn_probing, State.withdrawOn_eq] at hprobe
  rw [State.withdrawOn_eq]
  exact hprobe.of_setSpan (by rw [← hspan, hstate])

theorem State.takeFlags_replies {w : FarWord} (hst : (s.span d).state = .await) (h : s.Replies d w) :
    SpanChange s d ((s.span d).probing .farProbe (s.span d).honoured) none (s.takeFlags d w) := by
  obtain ⟨hstate, hreplies, -⟩ := s.withdrawOn_reads d w
  have hprobe := State.withdrawOn_enterProbe (w := w) hst .farProbe (f := id) (b := (s.span d).honoured)
    fun r hr => by rw [← hr]; rfl
  unfold State.takeFlags
  rw [State.replyProbe_replies (hstate.trans hst) (hreplies.mpr h), State.farRequest_stays]
  · exact hprobe
  · rw [hprobe.record]
    exact nofun

theorem State.takeFlags_honours {w : FarWord} (hst : (s.span d).state = .await) (hr : ¬s.Replies d w)
    (h : s.Honours d w) : SpanChange s d ((s.span d).probing .farRequest true) none (s.takeFlags d w) := by
  obtain ⟨hstate, hreplies, hhonours⟩ := s.withdrawOn_reads d w
  unfold State.takeFlags
  rw [State.replyProbe_stays fun _ => by rwa [hreplies],
    State.farRequest_honours (hstate.trans hst) (hhonours.mpr h)]
  exact State.withdrawOn_enterProbe hst .farRequest fun _ _ => rfl

/-! ### The far word (R108) and the change of the own ordinal (R132) -/

/-- `s` once the span controller has taken the oldest event of degree `d` from the span word unit. -/
def State.lineTaken (s : State) (d : Degree) : State :=
  { s with transit := { s.transit with fromLine := dropOldest s.transit.fromLine d } }

theorem execFarWord_taken {w : FarWord} (h : oldest s.transit.fromLine d = some (.farWord w)) :
    exec (.farWordAtSpanController d) s = .next ((s.lineTaken d).takeFarWord d w) := by
  simp only [exec, execFarWordAtSpanController, h, State.lineTaken]

theorem execSiteOrdinalChange_taken {b : Bool} (h : oldest s.transit.fromLine d = some (.ordinal b)) :
    exec (.siteOrdinalChange d) s = .next ((s.lineTaken d).takeOrdinalChange d b) := by
  simp only [exec, execSiteOrdinalChange, h, State.lineTaken]

/-- Steps 1 to 4 of R108 on a span that a role clash takes to HELD. -/
theorem State.farWord_clashes {w : FarWord} (hst : (s.span d).state = .await) (hw : w.ordinal = s.words.own) :
    SpanChange (s.setSpan d ((s.span d).withRole s.words.own (some w))) d
      ((s.span d).withRole s.words.own (some w)).clashed none ((s.setRole d (some w)).takeFlags d w) := by
  have hclash := State.setRole_clash (far := some w) hst ((ordinalsClash_some ..).mpr hw)
  rw [State.takeFlags_stays (.inl (by rw [hclash.record]; exact nofun)), hclash.record,
    Span.withdrawnOn, if_neg (fun h => Bool.false_ne_true h.2), ← hclash.record, State.setSpan_self]
  rw [hclash.record]
  exact hclash

/-- Settles O44: steps 1 to 4 of a far word by whether the ordinals clash and what the flags ask for, and a change of the own
ordinal by whether the ordinals clash after it. -/
theorem aFarWordIsTaken : Obligations.AFarWordIsTaken := by
  intro d s
  refine ⟨fun w hw => ?_, fun b hb => ?_⟩
  · have hrole := roleAgainst_some s.words.own w
    have hset : (s.span d).state ≠ .await ∨ w.ordinal ≠ s.words.own → (s.lineTaken d).setRole d (some w) =
        (s.lineTaken d).setSpan d ((s.span d).withRole s.words.own (some w)) := fun h =>
      State.setRole_stays (s := s.lineTaken d) (h.imp_right fun h =>
        Bool.eq_false_iff.mpr fun hc => h ((ordinalsClash_some ..).mp hc))
    have hsame : ((s.lineTaken d).setSpan d ((s.span d).withRole s.words.own (some w))).span d =
      (s.span d).withRole s.words.own (some w) := State.span_setSpan_same ..
    refine ⟨_, ((s.lineTaken d).setRole d (some w)).takeFlags d w, (s.span d).withRole s.words.own (some w),
      execFarWord_taken hw, rfl, hrole.1, hrole.2.1, hrole.2.2, fun ⟨hst, ho⟩ => ?_, fun ⟨hst, ho, hr⟩ => ?_,
      fun ⟨hst, ho, hr, hreq⟩ => ?_, fun h => ?_, State.testConfirmation_tested ..⟩
    · exact State.farWord_clashes (s := s.lineTaken d) hst ho
    · rw [hset (.inr ho)]
      have hprobe := State.takeFlags_replies (s := (s.lineTaken d).setSpan d _) (w := w)
        (by rw [hsame]; exact hst) (by rw [State.Replies, hsame]; exact hr)
      rw [hsame] at hprobe
      exact hprobe
    · rw [hset (.inr ho)]
      have hprobe := State.takeFlags_honours (s := (s.lineTaken d).setSpan d _) (w := w)
        (by rw [hsame]; exact hst) (by rw [State.Replies, hsame]; exact hr) (by rw [State.Honours, hsame]; exact hreq)
      rw [hsame] at hprobe
      exact hprobe
    · rw [hset (h.imp_right And.left), State.takeFlags_stays, hsame, State.setSpan_setSpan]
      · rfl
      · rw [State.Replies, State.Honours, hsame]
        exact h.imp_right And.right
  · obtain ⟨m, hm⟩ : ∃ m, m = if b then (s.lineTaken d).reexamine d else s.lineTaken d := ⟨_, rfl⟩
    have hown : m.words = s.words := by
      rw [hm]
      split
      · exact (State.reexamine_side ..).words
      · rfl
    have hnext : exec (.siteOrdinalChange d) s = .next (m.setRole d (s.line d).far) := by
      rw [execSiteOrdinalChange_taken hb, hm]
      rfl
    have hclash := s.clash_iff d
    refine ⟨_, m, (m.span d).withRole m.words.own (s.line d).far, hnext, hm, rfl, fun hfar => ?_, fun x hfar => ?_,
      fun ⟨hst, hc⟩ => ?_, fun h => ?_⟩
    · rw [hfar]
      rfl
    · rw [hfar, hown]
      exact roleAgainst_some s.words.own x
    · exact State.setRole_clash hst (by rw [hown]; exact hclash.mpr hc)
    · refine State.setRole_stays (h.imp_right fun h => ?_)
      rw [hown]
      exact Bool.eq_false_iff.mpr fun hc => h (hclash.mp hc)

end Sys2Proof.Machine
end


section

/-! ## Reports: the fourteen bytes, the queue and its reading (R171 to R174, R186) -/

namespace Sys2Proof.Machine

/-! ### The bytes of a record -/

/-- The trigger age is the low byte of the difference, whichever way it is narrowed. -/
theorem ofNat_toNat_eq_setWidth (w : Word32) : BitVec.ofNat 8 w.toNat = w.setWidth 8 :=
  BitVec.eq_of_toNat_eq (by simp)

theorem wordBytes_length (w : Word32) : (wordBytes w).length = 4 := rfl

theorem keyBytes_length (k : Key) : (keyBytes k).length = 3 := rfl

theorem powerBytes_length (v : Option Int) : (powerBytes v).length = 2 := by
  cases v <;> rfl

/-- Every record is fourteen bytes long, whatever it reports (R186). -/
theorem Report.bytes_length (r : Report) : r.bytes.length = 14 := by
  cases r <;> simp [Report.bytes, wordBytes_length, keyBytes_length, powerBytes_length]

/-! ### The attention line -/

theorem attentionOf_eq_true_iff (l : List Report) (m : BitVec 4) :
    attentionOf l m = true ↔ ∃ r ∈ l, m.getLsbD (maskBit r.category) = true := by
  rw [attentionOf, List.any_eq_true]

/-! ### A record reaches the queue -/

theorem HostLink.enqueue_of_lt {l : HostLink} (r : Report) (h : l.reports.length < 32) :
    l.enqueue r = { l with
      reports := l.reports ++ [r], attention := attentionOf (l.reports ++ [r]) l.notify } :=
  if_pos h

theorem HostLink.enqueue_of_full {l : HostLink} (r : Report) (h : 32 ≤ l.reports.length) :
    l.enqueue r = { l with overflow := true } :=
  if_neg (Nat.not_lt.mpr h)

theorem exec_reportEnqueue_none {c : Category} {s : State} (h : nextReport c s.transit.reports = none) :
    exec (.reportEnqueue c) s = .next s := by
  change execReportEnqueue c s = _
  rw [execReportEnqueue, h]

theorem exec_reportEnqueue_some {c : Category} {s : State} {r : Report}
    (h : nextReport c s.transit.reports = some r) :
    exec (.reportEnqueue c) s = .next { s with
      transit := { s.transit with reports := dropReport c s.transit.reports }, link := s.link.enqueue r } := by
  change execReportEnqueue c s = _
  rw [execReportEnqueue, h]
  rfl

theorem exec_reportEnqueue_absent {c : Category} {s : State}
    (h : ∀ x ∈ s.transit.reports, x.report.category ≠ c) : exec (.reportEnqueue c) s = .next s :=
  exec_reportEnqueue_none (nextReport_none h)

section
variable {s : State} {c : Category} {x : HandedReport} {a b : List HandedReport}

/-- A SOURCE report of a span state change waits for the SPAN reports before it (R83). -/
theorem exec_reportEnqueue_waits (hl : s.transit.reports = a ++ x :: b) (hx : x.report.category = c)
    (ha : ∀ y ∈ a, y.report.category ≠ c) (hw : x.afterSpan = true) (hs : ∃ y ∈ a, y.report.category = .span) :
    exec (.reportEnqueue c) s = .next s :=
  exec_reportEnqueue_none (by rw [hl, (nextReport_at hx ha).2, if_pos ⟨hw, hs⟩])

/-- The oldest report of its category, which has nothing to wait for, leaves transit for the queue. -/
theorem exec_reportEnqueue_moves (hl : s.transit.reports = a ++ x :: b) (hx : x.report.category = c)
    (ha : ∀ y ∈ a, y.report.category ≠ c)
    (hw : x.afterSpan = false ∨ ∀ y ∈ a, y.report.category ≠ .span) :
    exec (.reportEnqueue c) s = .next { s with
      transit := { s.transit with reports := a ++ b }, link := s.link.enqueue x.report } := by
  have hfree : ¬(x.afterSpan = true ∧ ∃ y ∈ a, y.report.category = .span) := by
    rintro ⟨hafter, y, hy, hspan⟩
    rcases hw with hw | hw
    · exact absurd (hw.symm.trans hafter) (by decide)
    · exact hw y hy hspan
  obtain ⟨hdrop, hnext⟩ := nextReport_at (b := b) hx ha
  rw [exec_reportEnqueue_some (r := x.report) (by rw [hl, hnext, if_neg hfree]), hl, hdrop]

end

/-! ### READ_REPORTS and SET_NOTIFY -/

theorem exec_readReports (s : State) : exec .readReports s = .next (State.answer
    { s with link := { s.link with
      reports := s.link.reports.drop 8, overflow := false,
      attention := attentionOf (s.link.reports.drop 8) s.link.notify } }
    .readReports
    ([0x00, if s.link.overflow then 1 else 0, BitVec.ofNat 8 (min 8 s.link.reports.length)] ++
      (s.link.reports.take 8).flatMap Report.bytes)) := by
  refine serve_answer .readReports (Prod.ext rfl ?_)
  simp only [State.takeReadReports, readLimit, List.length_take]
  rfl

theorem exec_setNotify (s : State) (m : BitVec 4) : exec (.setNotify (m.setWidth 8)) s = .next (State.answer
    { s with link := { s.link with notify := m, attention := attentionOf s.link.reports m } }
    (.setNotify (m.setWidth 8)) [0x00, m.setWidth 8]) := by
  refine serve_answer (.setNotify (m.setWidth 8)) ?_
  rw [State.takeSetNotify, set?_setWidth]
  rfl

/-- Settles O52: each record's bytes are its `Report.bytes` equation; the queue events go through `nextReport_at`. -/
theorem reportsAreQueuedAndRead : Obligations.ReportsAreQueuedAndRead := by
  unfold Obligations.ReportsAreQueuedAndRead
  intro category
  have hcategory : category = Report.category := by
    funext r
    cases r <;> rfl
  clear_value category
  subst hcategory
  refine ⟨fun r => ?bytes, fun s => ⟨?absent, ?waits, ?moves, exec_readReports s, fun r _ => r.bytes_length, ?notify,
    fun m => ?attention⟩⟩
  case bytes =>
    cases r with
    | raised k at_ n p => simp [Report.bytes, optByte_eq, byteOf]
    | cleared k at_ c => cases c <;> rfl
    | span d o n c at_ => rfl
    | source i g why at_ => cases g <;> rfl
    | captureReady b d k trigger n at_ =>
      rw [Report.bytes, ← ofNat_toNat_eq_setWidth]
      rfl
    | captureSkipped d k at_ => rfl
    | start c => cases c <;> rfl
  case absent => exact fun c h => exec_reportEnqueue_absent h
  case waits => exact fun c h a b hl hx ha hw hs => exec_reportEnqueue_waits hl hx ha hw hs
  case moves =>
    intro c r after a b hl hr ha hw
    have hmoved := exec_reportEnqueue_moves hl hr ha hw
    refine ⟨_, rfl, fun hroom => ?_, fun hfull => ?_⟩
    · rw [hmoved, HostLink.enqueue_of_lt r hroom]
    · rw [hmoved, HostLink.enqueue_of_full r hfull]
  case notify =>
    rintro a m rfl
    exact exec_setNotify s m
  case attention =>
    rw [attentionOf_eq_true_iff]
    refine exists_congr fun r => and_congr_right fun _ => ?_
    cases r <;> rfl

end Sys2Proof.Machine

end


section

/-! ## RESUME, UNLOCK and PROBE_NOW under a claim (R99, R100, R117, R150 to R152) -/

namespace Sys2Proof.Machine

/-! ### The end of a claim -/

theorem State.endClaim_of_none {s : State} (h : s.claim.standing = none) (e : EndCause) : s.endClaim e = s := by
  rw [State.endClaim, h]

theorem State.endClaim_span (s : State) (e : EndCause) (d : Degree) : (s.endClaim e).span d = s.span d := by
  unfold State.endClaim
  split <;> rfl

theorem State.endClaim_blocked (s : State) (e : EndCause) (d : Degree) : (s.endClaim e).blocked d = s.blocked d := by
  unfold State.endClaim
  split <;> rfl

/-! ### The claim check (R151) -/

theorem claimCheck_of_absent {s : State} (h : s.claim.standing = none) (m : DegSet) :
    s.claimCheck m = some .absent := by
  rw [State.claimCheck, h]

theorem claimCheck_of_otherSet {s : State} {c : Standing} {m : DegSet} (hc : s.claim.standing = some c)
    (hm : c.degrees ≠ m) : s.claimCheck m = some .setMismatch := by
  simp only [State.claimCheck, hc]
  exact if_pos hm

theorem claimCheck_of_stale {s : State} {c : Standing} {m : DegSet} (hc : s.claim.standing = some c)
    (hm : c.degrees = m)
    (hr : ¬∀ r ∈ c.recorded, r.changes = (s.span r.degree).changes ∧ r.touch = look s.cond.touch r.degree) :
    s.claimCheck m = some .stale := by
  have hall : ¬(c.recorded.all fun r => r == s.numbersNow r.degree) = true := by
    refine fun hall => hr fun r hmem => ?_
    have hnow : r = s.numbersNow r.degree := beq_iff_eq.mp (List.all_eq_true.mp hall r hmem)
    exact ⟨congrArg Recorded.changes hnow, congrArg Recorded.touch hnow⟩
  simp only [State.claimCheck, hc]
  rw [if_neg (not_not.mpr hm), if_neg hall]

/-! ### A commit whose claim check passes (R152) -/

section
variable {s : State} {m : DegSet} {pre : Degree → Reason}

theorem State.commit_passed (hc : s.claimCheck m = none) (hp : ∀ d ∈ DegSet.toList m, pre d = .pass)
    (f : State → Degree → State) (ok : Byte) :
    s.commit m pre f ok = ((DegSet.toList m).foldl f (s.endClaim .consumed), [ok]) := by
  have hall : (((DegSet.toList m).map fun d => (d, pre d)).all fun p => p.2 == .pass) = true := by
    simpa using hp
  simp only [State.commit, hc]
  exact if_pos hall

/-- The refusal as the rule gives it: one code for the whole set, then each degree with its reason. -/
theorem refusalBody_map (l : List Degree) (pre : Degree → Reason) :
    refusalBody (l.map fun d => (d, pre d)) =
      (if ∃ d ∈ l, pre d = .keyOpen then 0x32 else 0x31) :: BitVec.ofNat 8 l.length ::
        l.flatMap fun d => [BitVec.ofNat 8 d.val, reasonByte (pre d)] := by
  simp [refusalBody, List.flatMap_map, codeKeyOpen, codeStateRefused, byteOf]

theorem State.commit_refused (hc : s.claimCheck m = none) (hp : ∃ d ∈ DegSet.toList m, pre d ≠ .pass)
    (f : State → Degree → State) (ok : Byte) :
    s.commit m pre f ok = (s.endClaim .consumed,
      (if ∃ d ∈ DegSet.toList m, pre d = .keyOpen then 0x32 else 0x31) ::
        BitVec.ofNat 8 (DegSet.toList m).length ::
        (DegSet.toList m).flatMap fun d => [BitVec.ofNat 8 d.val, reasonByte (pre d)]) := by
  have hall : ¬(((DegSet.toList m).map fun d => (d, pre d)).all fun p => p.2 == .pass) = true := by
    simpa using hp
  simp only [State.commit, hc, ← refusalBody_map]
  exact if_neg hall

end

/-! ### The three commands as commits -/

theorem NamesDegrees.degreesFit {n : Byte} {l : List Byte} {m : DegSet} (h : NamesDegrees n l m) :
    degreesFit n l = true := by
  obtain ⟨ds, hlen, -, rfl, rfl, -⟩ := h
  rw [degreesFit_iff, List.length_map, BitVec.toNat_ofNat]
  omega

theorem State.spanCommit_eq {s : State} {n : Byte} {l : List Byte} {m : DegSet} (h : NamesDegrees n l m)
    (pre : Degree → Reason) (f : State → Degree → State) (ok : Byte) :
    refuseIllFormed (degreesFit n l) s (s.spanCommit n l pre f ok) = s.commit m pre f ok := by
  rw [refuseIllFormed, h.degreesFit, if_pos rfl, State.spanCommit, (degrees?_eq_some n l m).mpr h]

section
variable {n : Byte} {l : List Byte} {m : DegSet}

theorem exec_resume (h : NamesDegrees n l m) (s : State) : exec (.resume n l) s =
    .next (State.serve (.resume n l) (s.commit m s.resumable (State.release .resume) codeOk)) :=
  congrArg (fun r => (.next (State.serve (.resume n l) r) : Result)) (State.spanCommit_eq h ..)

theorem exec_unlock (h : NamesDegrees n l m) (s : State) : exec (.unlock n l) s =
    .next (State.serve (.unlock n l) (s.commit m s.unlockable (State.release .unlock) codeOk)) :=
  congrArg (fun r => (.next (State.serve (.unlock n l) r) : Result)) (State.spanCommit_eq h ..)

theorem exec_probeNow (h : NamesDegrees n l m) (t : Byte) (s : State) : exec (.probeNow n t l) s =
    .next (State.serve (.probeNow n t l) (s.commit m s.probeable
      (State.probeManually (clampNat 5 90 t.toNat * 100)) (okOrClamped (clampNat 5 90 t.toNat != t.toNat)))) :=
  congrArg (fun r => (.next (State.serve (.probeNow n t l) r) : Result)) (State.spanCommit_eq h ..)

/-- All three lose their claim in the same way. -/
theorem exec_spanCommit_lost (h : NamesDegrees n l m) (t : Byte) {s : State} {why : LossReason}
    (hw : s.claimCheck m = some why) {i : Instr} (hi : i ∈ [Instr.resume n l, .unlock n l, .probeNow n t l]) :
    exec i s = .next (State.answer (s.endClaim .consumed) i [0x30, lossByte why]) := by
  simp only [List.mem_cons, List.not_mem_nil, or_false] at hi
  obtain rfl | rfl | rfl := hi
  · exact (exec_resume h s).trans (serve_answer _ (State.commit_lost s hw ..))
  · exact (exec_unlock h s).trans (serve_answer _ (State.commit_lost s hw ..))
  · exact (exec_probeNow h t s).trans (serve_answer _ (State.commit_lost s hw ..))

end

theorem okOrClamped_tenths (t : Nat) :
    okOrClamped (clampNat 5 90 t != t) = if 5 ≤ t ∧ t ≤ 90 then 0x00 else 0x01 := by
  by_cases h : 5 ≤ t ∧ t ≤ 90
  · have hin : clampNat 5 90 t = t := by
      unfold clampNat
      omega
    rw [if_pos h, hin, bne_self_eq_false]
    rfl
  · have hout : clampNat 5 90 t ≠ t := by
      unfold clampNat
      omega
    rw [if_neg h, bne_iff_ne.mpr hout]
    rfl

/-! ### The preconditions -/

theorem State.reasonByte_resumable (s : State) (d : Degree) :
    reasonByte (s.resumable d) = if (s.span d).state = .held then 0 else 1 := by
  unfold State.resumable
  split <;> rfl

theorem State.resumable_eq_pass (s : State) (d : Degree) : s.resumable d = .pass ↔ (s.span d).state = .held := by
  simp [State.resumable]

theorem State.resumable_ne_keyOpen (s : State) (d : Degree) : s.resumable d ≠ .keyOpen := by
  unfold State.resumable
  split <;> decide

theorem State.keyStands_eq (s : State) (d : Degree) : s.keyStands d =
    s.cond.active.any fun r => r.key.kind == .keyOpen && (r.key.degree == some d || r.key.degree == none) := by
  refine congrArg s.cond.active.any (funext fun r => ?_)
  cases r.key.degree <;> rfl

theorem State.reasonByte_unlockable (s : State) (d : Degree) :
    reasonByte (s.unlockable d) = if (s.span d).state ≠ .locked then 1 else if s.keyStands d then 2 else 0 := by
  unfold State.unlockable
  split
  · rfl
  · split <;> rfl

theorem State.unlockable_eq_pass (s : State) (d : Degree) :
    s.unlockable d = .pass ↔ (s.span d).state = .locked ∧ s.keyStands d = false := by
  by_cases hs : (s.span d).state = .locked <;> simp [State.unlockable, hs]

theorem reasonByte_eq_one {r : Reason} : reasonByte r = 1 ↔ r = .stateRefused := by
  cases r <;> decide

theorem reasonByte_eq_two {r : Reason} : reasonByte r = 2 ↔ r = .keyOpen := by
  cases r <;> decide

theorem State.probeable_eq_pass (s : State) (d : Degree) : s.probeable d = .pass ↔
    ((s.span d).state = .await ∨ (s.span d).state = .held) ∧ s.blocked d = false := by
  simp [State.probeable]

theorem State.probeable_ne_keyOpen (s : State) (d : Degree) : s.probeable d ≠ .keyOpen := by
  unfold State.probeable
  split <;> decide

theorem State.reasonByte_probeable (s : State) (d : Degree) : reasonByte (s.probeable d) =
    if ((s.span d).state = .await ∨ (s.span d).state = .held) ∧ s.blocked d = false then 0 else 1 := by
  by_cases h : ((s.span d).state = .await ∨ (s.span d).state = .held) ∧ s.blocked d = false
  · rw [if_pos h, (s.probeable_eq_pass d).mpr h]
    rfl
  · rw [if_neg h, State.probeable, if_neg (by simpa using h)]
    rfl

/-! ### The changes of the degrees named -/

/-- The record of a span released to DARK (R99, R100), from its record and whether it is blocked. -/
def Span.released (c : SpanCause) (r : Span) (blocked : Bool) : Span :=
  { (r.enter .dark c).darken blocked with failed := 0 }

/-- The record of a span in a manual probe of `ms` (R111, R117). -/
def Span.probed (ms : Nat) (r : Span) : Span :=
  (r.enter .probe .manual).startProbe (if r.state = .held then .manualFromHeld else .manualFromAwait) ms

theorem State.release_change (c : SpanCause) (u : State) (d : Degree) :
    SpanChange u d ((u.span d).released c (u.blocked d)) none (State.release c u d) :=
  State.enterDark_change u d c (fun r => { r with failed := 0 }) none rfl rfl

theorem State.probeManually_change (ms : Nat) (u : State) (d : Degree) :
    SpanChange u d ((u.span d).probed ms) none (State.probeManually ms u d) :=
  State.moveSpan_change u d .probe .manual (Span.startProbe _ ms) none rfl rfl

theorem Span.released_eq {r : Span} (h : r.state = .held ∨ r.state = .locked) (c : SpanCause) (b : Bool) :
    r.released c b = { r with
      state := .dark, cause := c, failed := 0, settle := if b then none else some r.config.settleTime,
      interval := some (r.config.restartInterval * 1000), probeTimer := none, rampTimer := none, request := none,
      view := if b then .notEmpty else .empty, changes := r.changes + 1 } := by
  rw [Span.released, Span.enter_dark_eq]
  rcases h with h | h <;> rw [h] <;> rfl

theorem Span.probed_eq {r : Span} (h : r.state = .await ∨ r.state = .held) (ms : Nat) : r.probed ms = { r with
    state := .probe, cause := .manual, asserting := if r.state = .await then false else r.asserting, settle := none,
    interval := none, probeTimer := some ms, rampTimer := none, request := none,
    origin := some (if r.state = .held then .manualFromHeld else .manualFromAwait), changes := r.changes + 1 } := by
  rw [Span.probed, Span.enter_probe_eq]
  rcases h with h | h <;> rw [h] <;> rfl

/-- The spans of one or two degrees change one after the other, each by a state change of its own (R83, R152). -/
def ChangesEach (l : List Degree) (u v : State) (f : Degree → Span) : Prop :=
  (∃ d, l = [d] ∧ SpanChange u d (f d) none v) ∨
    ∃ d e w, l = [d, e] ∧ SpanChange u d (f d) none w ∧ SpanChange w e (f e) none v

/-- Where a degree's change reads its own record and its blocker set alone, a change of one degree leaves the next one's
as it was. -/
theorem changesEach_foldl {l : List Degree} (hl : l.length = 1 ∨ l.length = 2) (hn : l.Nodup)
    {g : State → Degree → State} {r : Span → Bool → Span}
    (hg : ∀ u d, SpanChange u d (r (u.span d) (u.blocked d)) none (g u d)) {u : State} {f : Degree → Span}
    (hf : ∀ d ∈ l, r (u.span d) (u.blocked d) = f d) : ChangesEach l u (l.foldl g u) f := by
  match l, hl with
  | [d], _ =>
    refine .inl ⟨d, rfl, ?_⟩
    rw [← hf d (by simp)]
    exact hg u d
  | [d, e], _ =>
    have hne : e ≠ d := by
      rintro rfl
      simp at hn
    have hfirst := hg u d
    have hsecond := hg (g u d) e
    rw [hfirst.others e hne, hfirst.blocked e, hf e (by simp)] at hsecond
    rw [hf d (by simp)] at hfirst
    exact .inr ⟨d, e, g u d, rfl, hfirst, hsecond⟩

theorem DegSet.toList_nodup (m : DegSet) : (DegSet.toList m).Nodup := (List.nodup_finRange 4).filter _

section
variable {n : Byte} {l : List Byte} {m : DegSet} {s : State}

/-- A commit that passes changes each degree named, from the state with its claim consumed. -/
theorem commit_changesEach (h : NamesDegrees n l m) (hc : s.claimCheck m = none) {pre : Degree → Reason}
    (hp : ∀ d ∈ DegSet.toList m, pre d = .pass) {g : State → Degree → State} {r : Span → Bool → Span}
    (hg : ∀ u d, SpanChange u d (r (u.span d) (u.blocked d)) none (g u d)) {f : Degree → Span}
    (hf : ∀ d ∈ DegSet.toList m, r (s.span d) (s.blocked d) = f d) (ok : Byte) (i : Instr) :
    ∃ v : State, (.next (State.serve i (s.commit m pre g ok)) : Result) = .next (v.answer i [ok]) ∧
      ChangesEach (DegSet.toList m) (s.endClaim .consumed) v f := by
  refine ⟨_, serve_answer i (State.commit_passed hc hp g ok),
    changesEach_foldl h.toList_length (DegSet.toList_nodup m) hg fun d hd => ?_⟩
  rw [State.endClaim_span, State.endClaim_blocked]
  exact hf d hd

/-- A commit that a precondition refuses answers its code and the reasons, and only the claim is gone. -/
theorem commit_answers_refusal (hc : s.claimCheck m = none) {pre : Degree → Reason}
    (hp : ∃ d ∈ DegSet.toList m, pre d ≠ .pass) (g : State → Degree → State) (ok : Byte) (i : Instr) {code : Byte}
    (hcode : (if ∃ d ∈ DegSet.toList m, pre d = .keyOpen then 0x32 else 0x31) = code) {reason : Degree → Byte}
    (hreason : ∀ d, reasonByte (pre d) = reason d) :
    (.next (State.serve i (s.commit m pre g ok)) : Result) = .next ((s.endClaim .consumed).answer i
      (code :: BitVec.ofNat 8 (DegSet.toList m).length :: (DegSet.toList m).flatMap fun d =>
        [BitVec.ofNat 8 d.val, reason d])) := by
  rw [serve_answer i (State.commit_refused hc hp g ok), hcode]
  simp only [hreason]

end

/-- Settles O45: the claim check decides between a lost claim, a refusal and one state change per degree. -/
theorem spanCommitsAreTaken : Obligations.SpanCommitsAreTaken := by
  unfold Obligations.SpanCommitsAreTaken
  intro n t l m s hnames fresh dark probe changed keyOpen refused toUnlock toProbe spent
  have hkey : s.keyStands = keyOpen := funext s.keyStands_eq
  have hunlock : ∀ d, reasonByte (s.unlockable d) = toUnlock d := fun d => by
    rw [State.reasonByte_unlockable, hkey]
  refine ⟨fun i hi => ⟨fun hnone => ?absent, fun c hc => ⟨s.endClaim_of_some hc _, fun hm => ?otherSet,
    fun hm hr => ?stale⟩⟩, fun c hc hm hr => ?taken⟩
  case absent =>
    have hlost := exec_spanCommit_lost hnames t (claimCheck_of_absent hnone m) hi
    rwa [State.endClaim_of_none hnone] at hlost
  case otherSet => exact exec_spanCommit_lost hnames t (claimCheck_of_otherSet hc hm) hi
  case stale => exact exec_spanCommit_lost hnames t (claimCheck_of_stale hc hm hr) hi
  case taken =>
    have hpass : s.claimCheck m = none := claimCheck_eq_none s hc hm hr
    refine ⟨fun hheld => ?_, fun ⟨d, hd, hnot⟩ => ?_, fun hopen => ?_, fun ⟨d, hd, hone⟩ hnokey => ?_,
      fun ⟨d, hd, htwo⟩ => ?_, fun hready => ?_, fun ⟨d, hd, hone⟩ => ?_⟩
    · rw [exec_resume hnames]
      exact commit_changesEach hnames hpass (fun d hd => (s.resumable_eq_pass d).mpr (hheld d hd))
        (State.release_change .resume) (fun d hd => Span.released_eq (.inl (hheld d hd)) ..) ..
    · rw [exec_resume hnames]
      exact commit_answers_refusal hpass ⟨d, hd, mt (s.resumable_eq_pass d).mp hnot⟩ _ _ _
        (if_neg fun ⟨e, _, he⟩ => s.resumable_ne_keyOpen e he) s.reasonByte_resumable
    · rw [exec_unlock hnames]
      exact commit_changesEach hnames hpass (fun d hd => (s.unlockable_eq_pass d).mpr (hkey ▸ hopen d hd))
        (State.release_change .unlock) (fun d hd => Span.released_eq (.inr (hopen d hd).1) ..) ..
    · rw [← hunlock, reasonByte_eq_one] at hone
      rw [exec_unlock hnames]
      refine commit_answers_refusal hpass ⟨d, hd, by rw [hone]; decide⟩ _ _ _
        (if_neg fun ⟨e, he, hek⟩ => hnokey e he ?_) hunlock
      rw [← hunlock, hek]
      rfl
    · rw [← hunlock, reasonByte_eq_two] at htwo
      rw [exec_unlock hnames]
      exact commit_answers_refusal hpass ⟨d, hd, by rw [htwo]; decide⟩ _ _ _ (if_pos ⟨d, hd, htwo⟩) hunlock
    · rw [exec_probeNow hnames, ← okOrClamped_tenths]
      exact commit_changesEach (r := fun r _ => r.probed _) hnames hpass
        (fun d hd => (s.probeable_eq_pass d).mpr (hready d hd)) (State.probeManually_change _)
        (fun d hd => Span.probed_eq (hready d hd).1 _) ..
    · rw [exec_probeNow hnames]
      have hrefused : s.probeable d ≠ .pass := fun hp => by
        have : toProbe d = 0 := if_pos ((s.probeable_eq_pass d).mp hp)
        exact absurd (this.symm.trans hone) (by decide)
      exact commit_answers_refusal hpass ⟨d, hd, hrefused⟩ _ _ _
        (if_neg fun ⟨e, _, he⟩ => s.probeable_ne_keyOpen e he) s.reasonByte_probeable

end Sys2Proof.Machine

end

section
/-! O10. What enters LIT (R108, R112, R113, R118): no command but the end of a ramp and the two that test the
confirmation of a probe takes a span to LIT, and the test takes the span it names alone, from PROBE. -/

namespace Sys2Proof.Machine

/-- From `s` to `t` span `e` does not enter state `n`: where it is in it in `t`, it was in `s`. -/
structure NoEntry (n : SpanState) (e : Degree) (s t : State) : Prop where
  stood : (t.span e).state = n → (s.span e).state = n

section
variable {s t u : State} {d e : Degree} {n : SpanState}

theorem NoEntry.refl (n : SpanState) (e : Degree) (s : State) : NoEntry n e s s := ⟨id⟩

theorem NoEntry.trans (h : NoEntry n e s t) (k : NoEntry n e t u) : NoEntry n e s u := ⟨fun hu => h.stood (k.stood hu)⟩

theorem NoEntry.of_state (h : (t.span e).state = (s.span e).state) : NoEntry n e s t := ⟨fun ht => h ▸ ht⟩

theorem NoEntry.of_ne (h : (t.span e).state ≠ n) : NoEntry n e s t := ⟨fun ht => absurd ht h⟩

theorem NoEntry.of_ctrl (h : t.ctrl = s.ctrl) : NoEntry n e s t := .of_state (by rw [State.span, State.span, h])

theorem NoEntry.foldl {α : Type} {f : State → α → State} (h : ∀ s x, NoEntry n e s (f s x)) (l : List α) (s : State) :
    NoEntry n e s (l.foldl f s) := by
  induction l generalizing s with
  | nil => exact .refl n e s
  | cons x l ih => exact (h s x).trans (ih (f s x))

/-- A record written in the state of its span. -/
theorem State.setSpan_noEntry {r : Span} (h : r.state = (s.span d).state) : NoEntry n e s (s.setSpan d r) := by
  refine .of_state ?_
  rw [setSpan_span]
  split
  · next hde => rw [h, hde]
  · rfl

/-- A state change enters the state it names and no other. -/
theorem State.moveSpan_noEntry {m : SpanState} {f : Span → Span} (c : SpanCause) (k : Option Key) (hm : m ≠ n)
    (hf : ∀ r, (f r).state = r.state) : NoEntry n e s (s.moveSpan d m c f k) := by
  refine ⟨fun ht => ?_⟩
  rw [State.moveSpan_span] at ht
  split at ht
  · exact absurd ((hf _).symm.trans ht) hm
  · exact ht

theorem State.enterProbe_noEntry {f : Span → Span} (c : SpanCause) (hn : n ≠ .probe) (hf : ∀ r, (f r).state = r.state) :
    NoEntry n e s (s.enterProbe d c f) :=
  State.moveSpan_noEntry c none hn.symm fun _ => hf _

theorem State.recomputeAll_noEntry (s : State) (b : Bool) (l : List SourceNo) : NoEntry n e s (s.recomputeAll b l) :=
  .of_ctrl (State.recomputeAll_side ..).ctrl

/-! ### What leads into the dark enters no light state -/

section
variable (hn : n.isLight = true)
include hn

theorem SpanState.ne_of_isLight {m : SpanState} (hm : m.isLight = false) : m ≠ n := by
  rintro rfl
  exact Bool.false_ne_true (hm.symm.trans hn)

theorem State.enterDark_noEntry {f : Span → Span} (c : SpanCause) (k : Option Key) (hf : ∀ r, (f r).state = r.state) :
    NoEntry n e s (s.enterDark d c f k) :=
  State.moveSpan_noEntry c k (SpanState.ne_of_isLight hn rfl) fun _ => hf _

theorem State.enterHeld_noEntry {f : Span → Span} (c : SpanCause) (k : Option Key) (hf : ∀ r, (f r).state = r.state) :
    NoEntry n e s (s.moveSpan d .held c f k) :=
  State.moveSpan_noEntry c k (SpanState.ne_of_isLight hn rfl) hf

theorem State.settleInAwait_noEntry (s : State) (d : Degree) : NoEntry n e s (s.settleInAwait d) := by
  unfold State.settleInAwait
  split
  · exact State.enterDark_noEntry hn _ none fun _ => rfl
  · split
    · exact State.setSpan_noEntry rfl
    · exact .refl n e s

theorem State.enterAwait_noEntry (c : SpanCause) {f : Span → Span} (hf : ∀ r, (f r).state = r.state) :
    NoEntry n e s (s.enterAwait d c f) := by
  unfold State.enterAwait
  split
  · exact State.enterHeld_noEntry hn _ none hf
  · refine (State.moveSpan_noEntry c none (SpanState.ne_of_isLight hn rfl) fun r => ?_).trans
      (State.settleInAwait_noEntry hn _ d)
    rw [hf]
    split <;> rfl

theorem State.takeCut_noEntry (d : Degree) (k : Key) : NoEntry n e s (s.takeCut d k) := by
  have hseen : NoEntry n e s (s.setSpan d ((s.span d).see d k true)) := State.setSpan_noEntry (Span.see_state ..)
  unfold State.takeCut
  refine hseen.trans ?_
  dsimp only
  split
  case h_1 => exact State.enterDark_noEntry hn _ _ fun _ => rfl
  case h_2 | h_3 =>
    split
    · exact State.enterHeld_noEntry hn _ _ fun _ => rfl
    · exact State.enterDark_noEntry hn _ _ fun _ => rfl
  all_goals exact .refl n e _

theorem State.takeLock_noEntry (d : Degree) (c : LockCause) : NoEntry n e s (s.takeLock d c) := by
  unfold State.takeLock
  split
  · split
    · exact State.setSpan_noEntry rfl
    · exact .refl n e s
  · exact State.moveSpan_noEntry _ none (SpanState.ne_of_isLight hn rfl) fun _ => rfl

theorem State.reexamine_noEntry (s : State) (d : Degree) : NoEntry n e s (s.reexamine d) := by
  unfold State.reexamine
  dsimp only
  split
  case h_3 => exact State.enterDark_noEntry hn _ none fun _ => rfl
  all_goals exact State.setSpan_noEntry rfl

theorem State.setRole_noEntry (d : Degree) (far : Option FarWord) : NoEntry n e s (s.setRole d far) := by
  have hrole : NoEntry n e s (s.setSpan d { s.span d with role := roleAgainst s.words.own far }) :=
    State.setSpan_noEntry rfl
  unfold State.setRole
  dsimp only
  split
  · exact hrole.trans (State.enterHeld_noEntry hn _ none fun _ => rfl)
  · exact hrole

theorem State.takeOrdinalChange_noEntry (d : Degree) (b : Bool) : NoEntry n e s (s.takeOrdinalChange d b) := by
  unfold State.takeOrdinalChange
  split
  · exact (State.reexamine_noEntry hn s d).trans (State.setRole_noEntry hn d _)
  · exact State.setRole_noEntry hn d _

theorem State.failProbe_noEntry (s : State) (d : Degree) : NoEntry n e s (s.failProbe d) := by
  unfold State.failProbe
  dsimp only
  split
  · exact State.enterHeld_noEntry hn _ none fun _ => rfl
  · exact State.enterAwait_noEntry hn _ fun _ => rfl

theorem State.release_noEntry (c : SpanCause) (s : State) (d : Degree) : NoEntry n e s (State.release c s d) :=
  State.enterDark_noEntry hn c none fun _ => rfl

/-- The state of a clear before its test of confirmation. -/
theorem State.clearExamined_noEntry (k : Key) (w : DegSet) :
    NoEntry n e s ((DegSet.toList w).foldl State.reexamine (s.unseen k)) := by
  have hunseen : NoEntry n e s (s.unseen k) := .of_state (by rw [State.unseen_span])
  exact hunseen.trans (NoEntry.foldl (State.reexamine_noEntry hn) _ _)

end

/-! ### What leads into a probe does not enter LIT -/

theorem State.intervalInAwait_noEntry (s : State) (d : Degree) : NoEntry .lit e s (s.intervalInAwait d) := by
  unfold State.intervalInAwait
  dsimp only
  split
  · split
    · exact State.enterProbe_noEntry _ nofun fun _ => rfl
    all_goals exact State.setSpan_noEntry rfl
  · exact State.setSpan_noEntry rfl

theorem State.probeManually_noEntry (ms : Nat) (s : State) (d : Degree) :
    NoEntry .lit e s (State.probeManually ms s d) :=
  State.moveSpan_noEntry _ none nofun fun _ => rfl

theorem State.takeFlags_noEntry (s : State) (d : Degree) (w : FarWord) : NoEntry .lit e s (s.takeFlags d w) := by
  have hwithdrawn : NoEntry .lit e s (s.withdrawOn d w) := by
    unfold State.withdrawOn
    split
    · exact State.setSpan_noEntry rfl
    · exact .refl _ e s
  have hreplied : ∀ u : State, NoEntry .lit e u (u.replyProbe d w) := fun u => by
    unfold State.replyProbe
    split
    · exact State.enterProbe_noEntry _ nofun fun _ => rfl
    · exact .refl _ e u
  have hrequested : ∀ u : State, NoEntry .lit e u (u.farRequest d w) := fun u => by
    unfold State.farRequest
    split
    · exact State.enterProbe_noEntry _ nofun fun _ => rfl
    · exact .refl _ e u
  exact (hwithdrawn.trans (hreplied _)).trans (hrequested _)

/-- A span that is in PROBE after steps 1 to 4 of R108 was in PROBE, or in AWAIT, before them. -/
theorem State.takeFlags_setRole_probe {w : FarWord}
    (h : (((s.setRole d (some w)).takeFlags d w).span d).state = .probe) :
    (s.span d).state = .probe ∨ (s.span d).state = .await := by
  by_cases ha : (s.span d).state = .await
  · exact .inr ha
  · have hrole : ((s.setRole d (some w)).span d).state = (s.span d).state := by
      rw [State.setRole_stays (.inl ha), State.span_setSpan_same]
      rfl
    have hflags : NoEntry .probe d (s.setRole d (some w)) ((s.setRole d (some w)).takeFlags d w) := by
      rw [State.takeFlags_stays (.inl (by rwa [hrole]))]
      refine State.setSpan_noEntry ?_
      unfold Span.withdrawnOn
      split <;> rfl
    exact .inl (hrole.symm.trans (hflags.stood h))

theorem State.takeSetSpan_noEntry (d : Byte) (c : RawSpanConfig) : NoEntry n e s (s.takeSetSpan d c).1 := by
  unfold State.takeSetSpan
  split
  · exact .refl n e s
  · refine NoEntry.trans ?_ (State.recomputeAll_noEntry ..)
    exact State.setSpan_noEntry rfl

theorem State.spanCommit_noEntry (k : Byte) (l : List Byte) (p : Degree → Reason) {f : State → Degree → State}
    (hf : ∀ u d, NoEntry n e u (f u d)) (ok : Byte) : NoEntry n e s (s.spanCommit k l p f ok).1 := by
  have hspent : NoEntry n e s (s.endClaim .consumed) := .of_ctrl (State.endClaim_side s .consumed).ctrl
  unfold State.spanCommit
  split
  · exact .refl n e s
  · unfold State.commit
    dsimp only
    split
    · exact hspent
    · split
      · exact hspent.trans (NoEntry.foldl hf _ _)
      · exact hspent

/-! ### What enters LIT -/

/-- The test of confirmation takes to LIT the span it names alone, where its probe is confirmed and its ramp depth is 0
(R112, R113). -/
theorem State.testConfirmation_enters_lit {far : Option FarWord} (h : (s.span e).state ≠ .lit)
    (ht : t = s.testConfirmation d far) (hl : (t.span e).state = .lit) :
    e = d ∧ (s.span d).state = .probe ∧ (t.span d).config.rampDepth = 0 ∧ (t.span d).seenDark = false ∧
      (t.span d).seenShut = false ∧ ∃ w, far = some w ∧ w.lightSeen = true := by
  have htested := s.testConfirmation_tested d far
  rw [← ht] at htested
  by_cases hc : s.ProbeConfirmed d far
  · by_cases hdepth : (s.span d).config.rampDepth = 0
    · have hchange := htested.lit hc hdepth
      have hed : e = d := by_contra fun hne => h (by rw [← hchange.others e hne, hl])
      obtain ⟨hprobe, hdark, hshut, hfar⟩ := hc
      rw [hchange.record]
      exact ⟨hed, hprobe, hdepth, hdark, hshut, hfar⟩
    · have hchange := htested.ramp hc hdepth
      by_cases hed : e = d
      · rw [hed, hchange.record] at hl
        cases hl
      · exact absurd (by rw [← hchange.others e hed, hl]) h
  · exact absurd (htested.unconfirmed hc ▸ hl) h

/-- The last step of a ramp takes its own span to LIT (R118). -/
theorem State.stepRamp_enters_lit (h : (s.span e).state ≠ .lit) (hl : ((s.stepRamp d).span e).state = .lit) :
    e = d ∧ (s.span d).remaining ≤ (s.span d).config.rampStep := by
  unfold State.stepRamp at hl
  dsimp only at hl
  split at hl
  · next hdone =>
    rw [State.moveSpan_span] at hl
    split at hl
    · next hde => exact ⟨hde.symm, Nat.le_of_sub_eq_zero hdone⟩
    · exact absurd hl h
  · refine absurd (NoEntry.stood (NoEntry.trans ?_ (State.recomputeAll_noEntry ..)) hl) h
    exact State.setSpan_noEntry rfl

theorem testsConfirmation_eq_some {k : Key} (h : testsConfirmation k = some d) :
    (k.kind = .darkIn ∨ k.kind = .farShut) ∧ k.degree = some d := by
  by_cases hk : k.kind = .darkIn ∨ k.kind = .farShut
  · refine ⟨hk, h ▸ ?_⟩
    unfold testsConfirmation
    obtain hk | hk := hk <;> rw [hk]
  · obtain ⟨hdark, hshut⟩ := not_or.mp hk
    cases (testsConfirmation_eq_none hdark hshut).symm.trans h

/-! ### All commands -/

theorem NoEntry.serve {r : State × List Byte} (h : NoEntry n e s r.1) (i : Instr) :
    Answers (NoEntry n e s) (.next (State.serve i r)) :=
  .next (h.trans (.of_ctrl (State.answer_side ..).ctrl))

/-- No command but these three takes a span to LIT. -/
theorem exec_noEntry_lit (s : State) (i : Instr) (hramp : ∀ d, i ≠ .rampStepExpiry d)
    (hword : ∀ d, i ≠ .farWordAtSpanController d) (hclear : i ≠ .clearAtSpanController) :
    Answers (NoEntry .lit e s) (exec i s) := by
  have htaken : ∀ (x : Transit) {t : State}, NoEntry .lit e { s with transit := x } t → NoEntry .lit e s t :=
    fun _ _ h => ⟨h.stood⟩
  cases hi : movesSpans i with
  | false => exact fun t ht => .of_ctrl (exec_ctrl s i hi t ht)
  | true =>
    cases i with
    | rampStepExpiry d => exact absurd rfl (hramp d)
    | farWordAtSpanController d => exact absurd rfl (hword d)
    | clearAtSpanController => exact absurd rfl hclear
    | powerOnReset =>
      have hheld : (s.powerOn.span e).state = .held := by
        have hctrl : s.powerOn.ctrl = s.powerOnBlocks.ctrl := (State.leaveReset_light _).2
        rw [State.span, hctrl]
        exact congrArg Span.state (look_replicate _ e)
      exact .next (.of_ne (by rw [hheld]; exact nofun))
    | replySent =>
      intro t ht
      obtain ⟨-, h⟩ | ⟨-, u, rfl⟩ := execReplySent_stands_or_resets s t ht
      · exact .of_ctrl h.2
      · have hheld : (u.softReset.span e).state = .held := by
          have hctrl : u.softReset.ctrl = u.softResetBlocks.ctrl := (State.leaveReset_light _).2
          rw [State.span, hctrl]
          exact congrArg Span.state (u.softResetBlocks_span e)
        exact .of_ne (by rw [hheld]; exact nofun)
    | cutOrder =>
      simp only [exec, execCutOrder]
      split
      · exact .next (htaken _ (State.takeCut_noEntry rfl _ _))
      all_goals exact .next (.refl _ e s)
    | lockOrder =>
      simp only [exec, execLockOrder]
      split
      · exact .next (htaken _ (State.takeLock_noEntry rfl _ _))
      all_goals exact .next (.refl _ e s)
    | blockerReexamination =>
      simp only [exec, execBlockerReexamination]
      split
      · exact .next (htaken _ (State.reexamine_noEntry rfl _ _))
      all_goals exact .next (.refl _ e s)
    | settleExpiry d =>
      simp only [exec, execSettleExpiry]
      split
      · exact .next (State.enterAwait_noEntry rfl _ fun _ => rfl)
      · exact .next (.refl _ e s)
    | intervalExpiry d =>
      have hcleared : NoEntry .lit e s (s.setSpan d { s.span d with honoured := false }) :=
        State.setSpan_noEntry rfl
      simp only [exec, execIntervalExpiry]
      split
      · split
        · exact .next (hcleared.trans (State.setSpan_noEntry rfl))
        · exact .next (hcleared.trans (State.intervalInAwait_noEntry _ d))
        all_goals exact .next (.refl _ e s)
      · exact .next (.refl _ e s)
    | probeTimerExpiry d =>
      simp only [exec, execProbeTimerExpiry]
      split
      · split
        · exact .next (State.enterHeld_noEntry rfl _ none fun _ => rfl)
        · exact .next (State.enterAwait_noEntry rfl _ fun _ => rfl)
        all_goals exact .next (State.failProbe_noEntry rfl s d)
      · exact .next (.refl _ e s)
    | requestTimerExpiry d =>
      simp only [exec, execRequestTimerExpiry]
      split
      · exact .next (State.setSpan_noEntry rfl)
      · exact .next (.refl _ e s)
    | siteOrdinalChange d =>
      simp only [exec, execSiteOrdinalChange]
      split
      · exact .next (htaken _ (State.takeOrdinalChange_noEntry rfl d _))
      all_goals exact .next (.refl _ e s)
    | setSpan d c => exact (State.takeSetSpan_noEntry d c).serve _
    | lock d =>
      refine NoEntry.serve ?_ _
      unfold State.takeLockRequest
      split
      · exact .refl _ e s
      · exact State.takeLock_noEntry rfl _ _
    | resume n l | unlock n l =>
      exact (refuseIllFormed_fst _ (.refl _ e s)
        (State.spanCommit_noEntry n l _ (State.release_noEntry rfl _) _)).serve _
    | probeNow n t l =>
      exact (refuseIllFormed_fst _ (.refl _ e s)
        (State.spanCommit_noEntry n l _ (State.probeManually_noEntry _) _)).serve _
    | _ => cases hi

theorem execRampStepExpiry_enters_lit (h : (s.span e).state ≠ .lit) (ht : exec (.rampStepExpiry d) s = .next t)
    (hl : (t.span e).state = .lit) :
    e = d ∧ (s.span d).state = .ramp ∧ (s.span d).rampTimer = some 0 ∧
      (s.span d).remaining ≤ (s.span d).config.rampStep := by
  simp only [exec, execRampStepExpiry] at ht
  split at ht
  · next hexp =>
    cases ht
    obtain ⟨hed, hle⟩ := State.stepRamp_enters_lit h hl
    exact ⟨hed, hexp.2, hexp.1, hle⟩
  · cases ht
    exact absurd hl h

/-- The word handed on is tested after steps 1 to 4 of R108, which may have begun the probe. -/
theorem execFarWord_enters_lit (h : (s.span e).state ≠ .lit) (ht : exec (.farWordAtSpanController d) s = .next t)
    (hl : (t.span e).state = .lit) :
    e = d ∧ (t.span d).config.rampDepth = 0 ∧ (t.span d).seenDark = false ∧ (t.span d).seenShut = false ∧
      ∃ w : FarWord, w.lightSeen = true ∧ oldest s.transit.fromLine d = some (.farWord w) ∧
        ((s.span d).state = .probe ∨ (s.span d).state = .await) := by
  have htested := ht
  simp only [exec, execFarWordAtSpanController] at htested
  split at htested
  · next w hw =>
    have htest : t = (((s.lineTaken d).setRole d (some w)).takeFlags d w).testConfirmation d (some w) := by
      cases htested
      rfl
    have hsteps : NoEntry .lit e (s.lineTaken d) (((s.lineTaken d).setRole d (some w)).takeFlags d w) :=
      (State.setRole_noEntry rfl d _).trans (State.takeFlags_noEntry _ d w)
    obtain ⟨hed, hprobe, hdepth, hdark, hshut, x, hx, hseen⟩ :=
      State.testConfirmation_enters_lit (mt hsteps.stood h) htest hl
    cases hx
    exact ⟨hed, hdepth, hdark, hshut, w, hseen, hw, State.takeFlags_setRole_probe (s := s.lineTaken d) hprobe⟩
  all_goals
    cases htested
    exact absurd hl h

/-- A clear is tested after its re-examinations, which begin no probe, against the word that stands on the line. -/
theorem execClear_enters_lit (h : (s.span e).state ≠ .lit) (ht : exec .clearAtSpanController s = .next t)
    (hl : (t.span e).state = .lit) :
    (t.span e).config.rampDepth = 0 ∧ (t.span e).seenDark = false ∧ (t.span e).seenShut = false ∧
      ∃ w : FarWord, w.lightSeen = true ∧ (s.line e).far = some w ∧ (s.span e).state = .probe ∧
        ∃ k held rest, s.transit.toSpan = .clear k held :: rest ∧ (k.kind = .darkIn ∨ k.kind = .farShut) ∧
          k.degree = some e := by
  have hcleared := ht
  simp only [exec, execClearAtSpanController] at hcleared
  split at hcleared
  · next k held rest hk =>
    cases hcleared
    have hexamined : ∀ {n : SpanState}, n.isLight = true → NoEntry n e (s.spanTaken rest)
        ((DegSet.toList held).foldl State.reexamine ((s.spanTaken rest).unseen k)) := fun hn =>
      State.clearExamined_noEntry hn k held
    cases htest : testsConfirmation k with
    | none =>
      rw [State.takeSpanClear_untested htest] at hl
      exact absurd ((hexamined rfl).stood hl) h
    | some d =>
      obtain ⟨rfl, hprobe, hdepth, hdark, hshut, w, hw, hseen⟩ := State.testConfirmation_enters_lit
        (mt (hexamined rfl).stood h) (State.takeSpanClear_tested htest held) hl
      exact ⟨hdepth, hdark, hshut, w, hseen, hw, (hexamined rfl).stood hprobe, k, held, rest, hk,
        testsConfirmation_eq_some htest⟩
  all_goals
    cases hcleared
    exact absurd hl h

end

/-- An AWAIT on D0 with ramp depth 0, and a word on its way that carries PROBING and LIGHT_SEEN. -/
def answering : State :=
  { State.reset.setSpan 0 { defaultSpan with state := .await, config := { defaultSpanConfig with rampDepth := 0 } } with
    transit := { emptyTransit with fromLine := [(0, .farWord
      { ordinal := 20, degree := 0, zeros := 0, code := 0, flags := 0b01100#5, spare := 0 })] } }

/-- R108 steps 3 and 5: a far word meets the hypotheses of O10 from AWAIT, as the reply probe it starts is confirmed. -/
theorem answering_enters_lit :
    (answering.span 0).state = .await ∧
      ∃ t, exec (.farWordAtSpanController 0) answering = .next t ∧ (t.span 0).state = .lit :=
  ⟨by decide, _, rfl, by decide⟩

/-- Settles O10: the three commands that enter LIT by what each does, and every other one by `exec_noEntry_lit`; none of
the three writes a ramp depth (`exec_keeps`). -/
theorem litIsEnteredByRampEndOrConfirmation : Obligations.LitIsEnteredByRampEndOrConfirmation := by
  intro i s t d hs ht hl
  by_cases hramp : ∃ e, i = .rampStepExpiry e
  · obtain ⟨e, rfl⟩ := hramp
    obtain ⟨rfl, hstate, htimer, hle⟩ := execRampStepExpiry_enters_lit hs ht hl
    exact .inl ⟨hstate, rfl, htimer, hle⟩
  by_cases hword : ∃ e, i = .farWordAtSpanController e
  · obtain ⟨e, rfl⟩ := hword
    have hconfig := congrFun ((exec_keeps s _ t ht).same .spanConfig List.not_mem_nil) d
    obtain ⟨rfl, hdepth, hdark, hshut, w, hseen, hw, hstate⟩ := execFarWord_enters_lit hs ht hl
    exact .inr ⟨hconfig ▸ hdepth, hdark, hshut, w, hseen, .inl ⟨rfl, hw, hstate⟩⟩
  by_cases hclear : i = .clearAtSpanController
  · subst hclear
    have hconfig := congrFun ((exec_keeps s _ t ht).same .spanConfig List.not_mem_nil) d
    obtain ⟨hdepth, hdark, hshut, w, hseen, hw, hstate, hclears⟩ := execClear_enters_lit hs ht hl
    exact .inr ⟨hconfig ▸ hdepth, hdark, hshut, w, hseen, .inr ⟨rfl, hw, hstate, hclears⟩⟩
  · have hstands := exec_noEntry_lit (e := d) s i (fun e he => hramp ⟨e, he⟩) (fun e he => hword ⟨e, he⟩) hclear t ht
    exact absurd (hstands.stood hl) hs

end Sys2Proof.Machine
end

section
/-! O46. The span word a degree sends, as the far end's receive check reads it (R122, R123, R180). -/

namespace Sys2Proof.Machine

/-! ### A word's bytes read back (R180) -/

/-- Byte 2 of a word: the low bits of the ordinal, the degree, and the zero bits. -/
theorem ordinalByte_fields (x : BitVec 4) (y : BitVec 2) :
    (x ++ y ++ 0#2).extractLsb' 4 4 = x ∧ (x ++ y ++ 0#2).extractLsb' 2 2 = y ∧ (x ++ y ++ 0#2).extractLsb' 0 2 = 0#2 := by
  revert x y
  decide

/-- A word whose state code is not 7 passes the receive check, and every field reads back as it was written. -/
theorem farWord?_spanWordBytes (own : Ordinal) (d : Degree) {code : BitVec 3} (h : code ≠ 7#3) (flags : BitVec 5) :
    farWord? (spanWordBytes own d code flags) =
      some { ordinal := own, degree := d, zeros := 0, code := code, flags := flags, spare := 0 } := by
  obtain ⟨hlow, hdegree, hzeros⟩ := ordinalByte_fields (own.extractLsb' 0 4) (BitVec.ofNat 2 d.val)
  have hordinal : own.extractLsb' 4 8 ++ own.extractLsb' 0 4 = own :=
    (BitVec.extractLsb'_append_extractLsb'_eq_extractLsb' rfl).trans BitVec.extractLsb'_eq_self
  have hcode : (code ++ flags).extractLsb' 5 3 = code := BitVec.extractLsb'_append_eq_left
  have hflags : (code ++ flags).extractLsb' 0 5 = flags := BitVec.extractLsb'_append_eq_right
  have hd : (BitVec.ofNat 2 d.val).toNat = d.val := Nat.mod_eq_of_lt d.isLt
  simp only [spanWordBytes, spanWordHead, List.cons_append, List.nil_append, List.drop_succ_cons, List.drop_zero,
    farWord?, hordinal, hlow, hdegree, hzeros, hcode, hflags, hd, true_and, if_pos h]
  rfl

theorem stateCode_ne_seven (x : SpanState) : stateCode x ≠ 7#3 := by
  cases x <;> decide

/-! ### The five flags (R123) -/

theorem State.lightSeen_iff (s : State) (d : Degree) :
    s.lightSeen d = true ↔ ∀ r ∈ s.cond.active, r.key ≠ degreeKey .darkIn d := by
  simp only [State.lightSeen, State.record?, Option.isNone_iff_eq_none, List.find?_eq_none, beq_iff_eq, ne_eq]

theorem getLsbD_of_five (a b c d e : Bool) :
    let x := BitVec.ofBool a ++ BitVec.ofBool b ++ BitVec.ofBool c ++ BitVec.ofBool d ++ BitVec.ofBool e
    x.getLsbD 4 = a ∧ x.getLsbD 3 = b ∧ x.getLsbD 2 = c ∧ x.getLsbD 1 = d ∧ x.getLsbD 0 = e := by
  revert a b c d e
  decide

theorem SpanState.isLight_iff (x : SpanState) : x.isLight = true ↔ x = .lit ∨ x = .ramp ∨ x = .probe := by
  cases x <;> decide

/-! ### SPAN_WORD_SEND -/

/-- What the far end reads in the word sent now. -/
def State.wordRead (s : State) (d : Degree) : FarWord :=
  { ordinal := s.words.own, degree := d, zeros := 0, code := stateCode (s.span d).state
    flags := sentFlags (s.span d).state (s.span d).asserting (s.lightSeen d), spare := 0 }

theorem State.farWord?_wordNow (s : State) (d : Degree) : farWord? (s.wordNow d) = some (s.wordRead d) :=
  farWord?_spanWordBytes _ d (stateCode_ne_seven _) _

theorem State.wordRead_flags (s : State) (d : Degree) :
    (s.wordRead d).shut = (!(s.span d).state.isLight) ∧ (s.wordRead d).lightSeen = s.lightSeen d ∧
      (s.wordRead d).probing = ((s.span d).state == .probe) ∧ (s.wordRead d).probeReq = (s.span d).asserting ∧
      (s.wordRead d).lockout = ((s.span d).state == .locked) :=
  getLsbD_of_five ..

/-- Settles O46: the bytes are read back by `farWord?_spanWordBytes`, and each flag by `State.wordRead_flags`. -/
theorem aSpanWordIsSent : Obligations.ASpanWordIsSent := by
  intro d s
  obtain ⟨hshut, hlight, hprobing, hreq, hlockout⟩ := s.wordRead_flags d
  have hother : ∀ e, e ≠ d → (s.setLine d { s.line d with sent := some (s.wordNow d) }).line e = s.line e :=
    fun e he => (State.line_setLine ..).trans (if_neg he.symm)
  refine ⟨_, s.wordNow d, s.wordRead d, rfl, State.line_setLine_same .., hother, rfl, rfl, spanWordBytes_length ..,
    rfl, s.farWord?_wordNow d, rfl, rfl, rfl, rfl, rfl, ?_, ?_, ?_, hreq, ?_⟩
  · rw [hshut, Bool.not_eq_false', SpanState.isLight_iff]
  · rw [hlight, s.lightSeen_iff]
  · rw [hprobing, beq_iff_eq]
  · rw [hlockout, beq_iff_eq]

end Sys2Proof.Machine
end

section
/-! O47. The bytes that arrive on a supervisory line: how a word opens, grows and is cut short, and what its sixth byte
does by the class of the word (R124 to R128, R130, R180). -/

namespace Sys2Proof.Machine

variable {s : State} {d : Degree}

/-! ### A line record written twice, and around a clear -/

theorem State.setLine_setLine (s : State) (d : Degree) (x y : Line) :
    (s.setLine d x).setLine d y = s.setLine d y := by
  have hput : put (put s.words.lines d x) d y = put s.words.lines d y := look_ext fun e => by
    simp only [look_put]
    split_ifs <;> rfl
  simp only [State.setLine, hput]

/-- The condition unit's clear neither reads nor writes a line record. -/
theorem State.clearDue_setLine {k : Key} (hk : ∀ n, k.detail ≠ some (.contact n)) (s : State) (d : Degree) (x : Line)
    (c : ClearCause) : (s.setLine d x).clearDue k c = (s.clearDue k c).setLine d x := by
  have hrecord : (s.setLine d x).record? k = s.record? k := rfl
  cases h : s.record? k with
  | none => rw [State.clearDue_of_none h, State.clearDue_of_none (hrecord.trans h)]
  | some r =>
    cases hp : r.pending with
    | true =>
      rw [State.clearDue_of_pending h hp, State.clearDue_of_pending (hrecord.trans h) hp]
      rfl
    | false =>
      rw [State.clearDue_of_not_pending_no_contact hk h hp,
        State.clearDue_of_not_pending_no_contact hk (hrecord.trans h) hp]
      rfl

theorem State.limits_clearDue {k : Key} (hk : ∀ n, k.detail ≠ some (.contact n)) (s : State) (c : ClearCause)
    (e : Degree) : (s.clearDue k c).limits e = s.limits e := by
  obtain ⟨x, hx⟩ := s.clearDue_eq_withDecision hk c
  rw [hx]
  rfl

/-! ### One byte, and idle (R125, R180) -/

theorem State.receiveByte_sync (h : (s.line d).receiving = none) :
    State.receiveByte d s syncByte = s.setReceiving d (some [syncByte]) := by
  simp only [State.receiveByte, h, if_true]

theorem State.receiveByte_not_sync (h : (s.line d).receiving = none) {b : Byte} (hb : b ≠ syncByte) :
    State.receiveByte d s b = s := by
  simp only [State.receiveByte, h, if_neg hb]

theorem State.receiveByte_inside {l : List Byte} (h : (s.line d).receiving = some l) (hl : l.length < 5) (b : Byte) :
    State.receiveByte d s b = s.setReceiving d (some (l ++ [b])) := by
  simp only [State.receiveByte, h]
  exact if_pos (Nat.succ_lt_succ hl)

theorem State.receiveByte_sixth {l : List Byte} (h : (s.line d).receiving = some l) (hl : l.length = 5) (b : Byte) :
    State.receiveByte d s b = (s.setReceiving d none).takeWord d (l ++ [b]) := by
  simp only [State.receiveByte, h]
  exact if_neg (by omega)

theorem State.fallIdle_closed (h : (s.line d).receiving = none) : s.fallIdle d = s := by
  simp only [State.fallIdle, h]

theorem State.fallIdle_open {l : List Byte} (h : (s.line d).receiving = some l) :
    s.fallIdle d = s.setLine d { (s.line d).discard with receiving := none } := by
  simp only [State.fallIdle, h]

/-! ### A whole word, by its class (R125 to R127, R130) -/

section
variable (s) (d) (r : Line) {bytes : List Byte} {w : FarWord}

theorem State.takeWord_discarded (h : farWord? bytes = none) :
    (s.setLine d r).takeWord d bytes = s.setLine d r.discard := by
  simp only [State.takeWord, h, State.line_setLine_same, State.setLine_setLine]

theorem State.takeWord_mismatched (h : farWord? bytes = some w) (h0 : r.expected ≠ 0) (hw : r.expected ≠ w.ordinal) :
    (s.setLine d r).takeWord d bytes = (s.setLine d r).mismatchWord d := by
  simp only [State.takeWord, h, State.line_setLine_same]
  exact if_pos ⟨h0, hw⟩

theorem State.takeWord_matched (h : farWord? bytes = some w) (hw : r.expected = 0 ∨ r.expected = w.ordinal) :
    (s.setLine d r).takeWord d bytes = (s.setLine d r).matchWord d w := by
  simp only [State.takeWord, h, State.line_setLine_same]
  exact if_neg fun ⟨h0, hne⟩ => hw.elim h0 hne

/-- A mismatched word on a lost line (R126). -/
theorem State.mismatchWord_lost (h : r.lost = true) : (s.setLine d r).mismatchWord d =
    s.setLine d { r with recovery := 0, mismatched := countTo65535 r.mismatched } := by
  simp only [State.mismatchWord, State.line_setLine_same, h, if_true, State.setLine_setLine]

/-- A mismatched word on a line that is up (R126, R128). -/
theorem State.mismatchWord_up (h : r.lost = false) : (s.setLine d r).mismatchWord d =
    (s.setLine d { r with
      recovery := 0, mismatched := countTo65535 r.mismatched, timer := some (s.limits d).lineTimeout,
      miswire := true }).lineDecides (degreeKey .miswire d) r.miswire true := by
  simp only [State.mismatchWord, State.line_setLine_same, h, Bool.false_eq_true, if_false, State.setLine_setLine,
    State.limits_setLine]

/-- The line after an accepted word that found it as `r`, and what it decides (R127, R128). -/
theorem State.acceptWord_setLine (w : FarWord) : (s.setLine d r).acceptWord d w =
    ((((s.setLine d (r.accept (s.limits d).lineTimeout w)).lineDecides (degreeKey .miswire d) r.miswire
      false).lineDecides (degreeKey .farShut d) r.shut w.shut).lineDecides (degreeKey .farLock d) r.lockout
        w.lockout).handLine d (.farWord w) := by
  simp only [State.acceptWord, State.line_setLine_same, State.setLine_setLine, State.limits_setLine]

theorem State.matchWord_up (h : r.lost = false) (w : FarWord) : (s.setLine d r).matchWord d w =
    (s.setLine d { r with accepted := countTo65535 r.accepted }).acceptWord d w := by
  simp only [State.matchWord, State.line_setLine_same, h, Bool.false_eq_true, if_false, State.setLine_setLine]

/-- A recovery word below the run of three raises the counts alone (R130). -/
theorem State.matchWord_recovery (h : r.lost = true) (hrun : r.recovery + 1 < 3) (w : FarWord) :
    (s.setLine d r).matchWord d w =
      s.setLine d { r with accepted := countTo65535 r.accepted, recovery := r.recovery + 1 } := by
  simp only [State.matchWord, State.recoverWord, State.line_setLine_same, h, if_true, if_pos hrun,
    State.setLine_setLine]

/-- The third word of the recovery run clears LINE_LOST and is accepted (R130). -/
theorem State.matchWord_recovered (h : r.lost = true) (hrun : 3 ≤ r.recovery + 1) (w : FarWord) :
    (s.setLine d r).matchWord d w =
      ((s.clearDue (degreeKey .lineLost d) .normal).setLine d
        { r with accepted := countTo65535 r.accepted, recovery := 3, lost := false }).acceptWord d w := by
  simp only [State.matchWord, State.recoverWord, State.line_setLine_same, h, if_true, if_neg (Nat.not_lt.mpr hrun),
    State.setLine_setLine, State.clearDue_setLine (degreeKey_no_contact .lineLost d)]

end

/-! ### The command -/

theorem execSpanWordReceived_idle (d : Degree) (s : State) :
    exec (.spanWordReceived d [] true) s = .next (s.fallIdle d) := rfl

/-- The line with no word open. -/
def Line.closed (r : Line) : Line := { r with receiving := none }

/-- The sixth byte closes the word, which is then taken whole. -/
theorem execSpanWordReceived_sixth {l : List Byte} (h : (s.line d).receiving = some l) (hl : l.length = 5) (b : Byte) :
    exec (.spanWordReceived d [b] false) s = .next ((s.setLine d (s.line d).closed).takeWord d (l ++ [b])) :=
  congrArg Host.Outcome.next (State.receiveByte_sixth h hl b)

/-- Settles O47: a byte by the receive state of the line, and the sixth by the class of the word it completes. -/
theorem bytesArriveOnASupervisoryLine : Obligations.BytesArriveOnASupervisoryLine := by
  intro d s
  refine ⟨fun _ _ _ _ _ _ => ⟨farWord?_eq_none .., fun _ hw => farWord?_fields hw⟩, fun _ _ _ => rfl, rfl,
    fun hclosed => ?closed, fun l hopen => ⟨?idle, fun b hl => ?inside, fun b hl => ?sixth⟩⟩
  case closed =>
    rw [execSpanWordReceived_idle, State.fallIdle_closed hclosed]
    exact ⟨rfl, congrArg Host.Outcome.next (State.receiveByte_sync hclosed),
      fun b hb => congrArg Host.Outcome.next (State.receiveByte_not_sync hclosed hb)⟩
  case idle => exact congrArg Host.Outcome.next (State.fallIdle_open hopen)
  case inside => exact congrArg Host.Outcome.next (State.receiveByte_inside hopen hl b)
  case sixth =>
    rw [execSpanWordReceived_sixth hopen hl]
    refine ⟨fun hw => ?discarded, fun w hw h0 hne => ?mismatched, fun w hw hexp => ?matched⟩
    case discarded => exact congrArg Host.Outcome.next (State.takeWord_discarded s d (s.line d).closed hw)
    case mismatched =>
      rw [State.takeWord_mismatched s d (s.line d).closed hw h0 hne]
      exact ⟨fun hlost => congrArg Host.Outcome.next (State.mismatchWord_lost s d (s.line d).closed hlost),
        fun hup => congrArg Host.Outcome.next (State.mismatchWord_up s d (s.line d).closed hup)⟩
    case matched =>
      rw [State.takeWord_matched s d (s.line d).closed hw hexp]
      refine ⟨fun hup => ?_, fun hlost hrun => ?_, fun hlost hrun => ?_⟩
      · rw [State.matchWord_up s d (s.line d).closed hup, State.acceptWord_setLine]
        rfl
      · rw [State.matchWord_recovery s d (s.line d).closed hlost hrun]
        rfl
      · rw [State.matchWord_recovered s d (s.line d).closed hlost hrun, State.acceptWord_setLine,
          State.limits_clearDue (degreeKey_no_contact .lineLost d)]
        rfl

end Sys2Proof.Machine
end

section
/-! O17. A zeroing taken at the condition unit (R140): the counters of the twenty-eight qualifiers alone. -/

namespace Sys2Proof.Machine

section

variable (c : CondUnit)

/-! ### One qualifier of the tables after a zeroing -/

@[simp] theorem CondUnit.look_zeroCounters_dark (d : Degree) :
    look c.zeroCounters.dark d = { look c.dark d with counter := 0 } := look_ofFn _ d

@[simp] theorem CondUnit.look_zeroCounters_refl (d : Degree) :
    look c.zeroCounters.refl d = { look c.refl d with counter := 0 } := look_ofFn _ d

@[simp] theorem CondUnit.look_zeroCounters_pump (d : Degree) :
    look c.zeroCounters.pump d = { look c.pump d with counter := 0 } := look_ofFn _ d

@[simp] theorem CondUnit.look_zeroCounters_fault (n : ChannelNo) :
    look c.zeroCounters.fault n = { look c.fault n with counter := 0 } := look_ofFn _ n

end

/-! ### The command -/

/-- The oldest zeroing in transit is taken. -/
theorem execCounterZeroing_taken {s : State} {n : Nat} (h : s.transit.zeroings = n + 1) :
    exec .counterZeroing s =
      .next { s with cond := s.cond.zeroCounters, transit := { s.transit with zeroings := n } } := by
  have hsome : s.transit.zeroings ≠ 0 := h ▸ Nat.succ_ne_zero n
  have hrest : s.transit.zeroings - 1 = n := h ▸ Nat.add_sub_cancel n 1
  simp only [exec, execCounterZeroing, if_neg hsome, hrest]

/-- Settles O17: the tables place by place; no other field of the condition unit or of the state is written. -/
theorem zeroingKeepsEveryQualifierState : Obligations.ZeroingKeepsEveryQualifierState := by
  intro n s h
  refine ⟨_, execCounterZeroing_taken h, fun d => ?thresholds, s.cond.look_zeroCounters_fault, rfl⟩
  case thresholds =>
    exact ⟨s.cond.look_zeroCounters_dark d, s.cond.look_zeroCounters_refl d, s.cond.look_zeroCounters_pump d⟩

end Sys2Proof.Machine
end

section
/-! O24. What GET_CLAIM, READ_CAPTURE, GET_CAPTURE and IDENTIFY answer (R154, R161, R163, R175). -/

namespace Sys2Proof.Machine

/-! ### The claim record (R154, R187) -/

theorem State.takeGetClaim_present {s : State} {c : Standing} (h : s.claim.standing = some c) :
    s.takeGetClaim = (s, [0x00, 0x01, c.degrees.setWidth 8] ++ wordBytes (BitVec.ofNat 32 c.life) ++
      [endCauseByte s.claim.lastEnd]) := by
  simp only [State.takeGetClaim, h]
  rfl

theorem State.takeGetClaim_absent {s : State} (h : s.claim.standing = none) :
    s.takeGetClaim = (s, [0x00, 0x00, 0x00, 0xFF, 0xFF, 0xFF, 0xFF, endCauseByte s.claim.lastEnd]) := by
  simp only [State.takeGetClaim, h]
  rfl

/-! ### A page of a buffer (R161, R186) -/

/-- The two hazard flags of a sample as a sum of their bits. -/
theorem sampleFlags_eq (dark refl : Bool) :
    0#6 ++ BitVec.ofBool refl ++ BitVec.ofBool dark = BitVec.ofNat 8 (dark.toNat + 2 * refl.toNat) := by
  revert dark refl
  decide

theorem positionBytes_eq (o : Option Sample) : positionBytes o =
    match o with
    | some x => halfBytes (BitVec.ofInt 16 x.pIn) ++ halfBytes (BitVec.ofInt 16 x.pOut) ++
      [BitVec.ofNat 8 (x.dark.toNat + 2 * x.refl.toNat)]
    | none => [0x00, 0x00, 0x00, 0x00, 0x80] := by
  cases o with
  | none => rfl
  | some x =>
    rw [positionBytes, sampleFlags_eq]
    rfl

theorem State.takeReadCapture_complete {s : State} {n : BufferNo} {t : Trace}
    (h : look s.capture.buffers n = .complete t) {b : Byte} (hb : b.toNat < 8) :
    s.takeReadCapture (BitVec.ofNat 8 n.val) b = (s, pageBytes (BitVec.ofNat 8 n.val) b t) := by
  have hpage : index? 8 b = some ⟨b.toNat, hb⟩ := dif_pos hb
  simp only [State.takeReadCapture, index?_ofNat (show 2 ≤ 256 by decide), hpage, h]

theorem State.takeReadCapture_notComplete {s : State} {n : BufferNo}
    (h : ∀ t, look s.capture.buffers n ≠ .complete t) {b : Byte} (hb : b.toNat < 8) :
    s.takeReadCapture (BitVec.ofNat 8 n.val) b = (s, [codeNotOwned]) := by
  have hpage : index? 8 b = some ⟨b.toNat, hb⟩ := dif_pos hb
  simp only [State.takeReadCapture, index?_ofNat (show 2 ≤ 256 by decide), hpage]
  match hbuffer : look s.capture.buffers n with
  | .empty => rfl
  | .filling _ => rfl
  | .complete t => exact absurd hbuffer (h t)

/-- Settles O24, request by request; a position of a page by whether its sample exists. -/
theorem queriesOfClaimsCapturesAndIdentity : Obligations.QueriesOfClaimsCapturesAndIdentity := by
  intro s a b
  refine ⟨fun c hc => serve_answer .getClaim (State.takeGetClaim_present hc),
    fun hnone => serve_answer .getClaim (State.takeGetClaim_absent hnone), ?page, ?capture, rfl⟩
  case page =>
    rintro n rfl hb
    refine ⟨fun hother => serve_answer (.readCapture ..) (State.takeReadCapture_notComplete hother hb), fun t ht => ?_⟩
    refine serve_answer (.readCapture ..) ((State.takeReadCapture_complete ht hb).trans (congrArg (Prod.mk s) ?_))
    exact congrArg (_ ++ List.flatMap · (List.range 16))
      (funext fun p => positionBytes_eq (t.at? (16 * b.toNat + p)))
  case capture =>
    intro buffer
    have hbuffer : ∀ x, bufferBytes x = buffer x := fun x => by cases x <;> rfl
    rw [← hbuffer, ← hbuffer]
    rfl

end Sys2Proof.Machine
end

section
/-! O50. How a claim comes to stand (R146) and what ends it (R147 to R149). -/

namespace Sys2Proof.Machine

/-! ### The length of a span snapshot (R185) -/

theorem keyPlaces_length (l : List Key) : (keyPlaces l).length = 48 := by
  have hkeys : ((l.take 16).flatMap keyBytes).length = 3 * min 16 l.length := by
    simp [List.length_flatMap, keyBytes_length, Nat.mul_comm]
  rw [keyPlaces_eq, List.length_append, hkeys, List.length_replicate]
  omega

theorem farOrdinalBytes_length (w : Option FarWord) : (farOrdinalBytes w).length = 2 := by
  cases w <;> rfl

theorem State.snapshotBytes_length (s : State) (d : Degree) : (s.snapshotBytes d).length = 57 := by
  simp [State.snapshotBytes, keyPlaces_length, farOrdinalBytes_length]

/-! ### CLAIM (R146) -/

theorem State.endClaim_lastEnd (s : State) (e : EndCause) :
    (s.endClaim e).claim.lastEnd = if s.claim.standing = none then s.claim.lastEnd else e := by
  cases h : s.claim.standing with
  | none => rw [State.endClaim_of_none h, if_pos rfl]
  | some c => rw [s.endClaim_of_some h, if_neg (Option.some_ne_none c)]

theorem State.startClaim_eq (s : State) (m : DegSet) : s.startClaim m = { s with claim :=
    { standing := some { degrees := m, recorded := (DegSet.toList m).map s.numbersNow, life := 10000 }
      lastEnd := if s.claim.standing = none then s.claim.lastEnd else .replaced } } := by
  rw [← State.endClaim_lastEnd]
  unfold State.startClaim State.endClaim
  split <;> rfl

theorem execClaim_named {n : Byte} {l : List Byte} {m : DegSet} (h : NamesDegrees n l m) (s : State) :
    exec (.claim n l) s =
      .next ((s.startClaim m).answer (.claim n l) (0x00 :: (DegSet.toList m).flatMap s.snapshotBytes)) := by
  refine serve_answer (.claim n l) ?_
  rw [refuseIllFormed, h.degreesFit, if_pos rfl, State.takeClaim, (degrees?_eq_some n l m).mpr h]
  rfl

/-! ### CLAIM_NOTICE (R147) -/

/-- A notice that has no place in transit, or none in front of every break, does nothing. -/
theorem execClaimNotice_waits {x : Notice} {s : State}
    (h : ∀ a b, s.transit.toClaim = a ++ .notice x :: b → ∃ c, .breakBy c ∈ a) : exec (.claimNotice x) s = .next s := by
  refine if_neg fun hmem => ?_
  obtain ⟨a, b, hl, hfree⟩ := takeWhile_isNotice_mem.mp hmem
  obtain ⟨c, hc⟩ := h a b hl
  exact hfree c hc

/-- The oldest notice of a name leaves its place in transit, whatever it then does to the claim. -/
theorem execClaimNotice_taken {x : Notice} {s u : State} {a b : List ClaimEvent}
    (hl : s.transit.toClaim = a ++ .notice x :: b) (ha : ∀ y ∈ a, ∃ n, y = .notice n ∧ n ≠ x)
    (hu : u = { s with transit := { s.transit with toClaim := a ++ b } }) :
    exec (.claimNotice x) s = .next (u.takeNotice x) := by
  have hfree : ∀ c, .breakBy c ∉ a := fun c hc => by
    obtain ⟨n, hn, -⟩ := ha _ hc
    exact ClaimEvent.noConfusion hn
  have hnew : .notice x ∉ a := fun hx => by
    obtain ⟨n, hn, hne⟩ := ha _ hx
    exact hne (ClaimEvent.notice.inj hn).symm
  have hdrop : (a ++ .notice x :: b).erase (.notice x) = a ++ b := by
    rw [List.erase_append_right _ hnew, List.erase_cons_head]
  refine (if_pos (takeWhile_isNotice_mem.mpr ⟨a, b, hl, hfree⟩)).trans ?_
  rw [State.dropClaimEvent, hl, hdrop, hu]

theorem State.takeNotice_absent (s : State) (h : s.claim.standing = none) (x : Notice) : s.takeNotice x = s := by
  rw [State.takeNotice, h]

theorem State.takeNotice_present (s : State) {c : Standing} (h : s.claim.standing = some c) (x : Notice) :
    s.takeNotice x = if noticeTouches x c.degrees then
      { s with claim := { standing := none, lastEnd := noticeCause x } } else s := by
  rw [State.takeNotice, h, s.endClaim_of_some h]

/-! ### CLAIM_BREAK (R148) -/

theorem execClaimBreak_taken {x : BreakCause} {s u : State} {a b : List ClaimEvent}
    (hl : s.transit.toClaim = a ++ .breakBy x :: b) (ha : .breakBy x ∉ a)
    (hu : u = { s with transit := { s.transit with toClaim := a ++ b } }) :
    exec (.claimBreak x) s = .next (u.endClaim (breakEnd x)) := by
  have hmem : .breakBy x ∈ s.transit.toClaim := by
    rw [hl]
    exact List.mem_append_right a List.mem_cons_self
  have hdrop : (a ++ .breakBy x :: b).erase (.breakBy x) = a ++ b := by
    rw [List.erase_append_right _ ha, List.erase_cons_head]
  refine (if_pos hmem).trans ?_
  rw [State.dropClaimEvent, hl, hdrop, hu]

theorem breakEnd_of_mem {x : BreakCause} {e : EndCause} (h : (x, e) ∈
    [(BreakCause.profile, EndCause.profile), (.resync, .resync), (.softReset, .reset)]) : breakEnd x = e := by
  revert h
  cases x <;> simp [breakEnd, eq_comm]

/-! ### CLAIM_LIFE_EXPIRY (R149) -/

theorem execClaimLifeExpiry_absent {s : State} (h : s.claim.standing = none) : exec .claimLifeExpiry s = .next s := by
  simp only [exec, execClaimLifeExpiry, h]

theorem execClaimLifeExpiry_present {s : State} {c : Standing} (h : s.claim.standing = some c) :
    exec .claimLifeExpiry s = .next (if c.life = 0 then
      { s with claim := { standing := none, lastEnd := .expired } } else s) := by
  simp only [exec, execClaimLifeExpiry, h, s.endClaim_of_some h]

/-- Settles O50: what each event does in transit, and then what it does to an ABSENT and to a standing claim. -/
theorem claimsStandAndEnd : Obligations.ClaimsStandAndEnd := by
  intro s
  refine ⟨fun n l m hm => ?claim, fun x hx => execClaimNotice_waits hx, fun x a b hl ha => ?notice,
    fun x hx => if_neg hx, fun x e a b hl ha he => ?broken, execClaimLifeExpiry_absent, fun c hc => ?life⟩
  case claim =>
    refine ⟨_, execClaim_named hm s, s.snapshotBytes_length, ?_⟩
    rw [State.startClaim_eq]
    exact ⟨rfl, rfl, rfl⟩
  case notice =>
    obtain ⟨u, hu⟩ : ∃ u : State, u = { s with transit := { s.transit with toClaim := a ++ b } } := ⟨_, rfl⟩
    have hclaim : s.claim = u.claim := hu ▸ rfl
    refine ⟨u, hu, ?_⟩
    rw [execClaimNotice_taken hl ha hu, hclaim]
    refine ⟨fun hnone => congrArg _ (u.takeNotice_absent hnone x), fun c d hc hx => ?_, fun c d hc hx => ?_,
      fun c hc hx => ?_⟩
    all_goals
      subst hx
      exact congrArg _ (u.takeNotice_present hc _)
  case broken =>
    obtain ⟨u, hu⟩ : ∃ u : State, u = { s with transit := { s.transit with toClaim := a ++ b } } := ⟨_, rfl⟩
    have hclaim : s.claim = u.claim := hu ▸ rfl
    refine ⟨u, hu, ?_⟩
    rw [execClaimBreak_taken hl ha hu, breakEnd_of_mem he, hclaim]
    refine ⟨fun hnone => congrArg _ (State.endClaim_of_none hnone e), fun hsome => ?_⟩
    obtain ⟨c, hc⟩ := Option.ne_none_iff_exists'.mp hsome
    exact congrArg _ (u.endClaim_of_some hc e)
  case life =>
    rw [execClaimLifeExpiry_present hc]
    exact ⟨fun hleft => by rw [if_neg hleft], fun hover => by rw [if_pos hover]⟩

end Sys2Proof.Machine
end

section
/-! O51. A sample at the rings and the buffers (R155, R159), a trigger (R157, R158, R160) and a release (R162). -/

namespace Sys2Proof.Machine

theorem otherBuffer_ne (b : BufferNo) : otherBuffer b ≠ b := by
  revert b
  decide

theorem otherBuffer_eq_of_ne {b c : BufferNo} (h : b ≠ c) : otherBuffer b = c := by
  revert b c
  decide

/-! ### One buffer at a sample (R159) -/

/-- What a buffer holds once a sample of degree `d` has passed it. -/
def Buffer.withSample (d : Degree) (x : Sample) : Buffer → Buffer
  | .filling t =>
    if t.degree = d then
      if t.post.length < 63 then .filling { t with post := t.post ++ [x] }
      else .complete { t with post := t.post ++ [x] }
    else .filling t
  | .empty => .empty
  | .complete t => .complete t

/-- The trace, as it stood, that a sample of degree `d` completes. -/
def Buffer.completing (d : Degree) : Buffer → Option Trace
  | .filling t => if t.degree = d ∧ 63 ≤ t.post.length then some t else none
  | .empty | .complete _ => none

theorem Buffer.withSample_filling {d : Degree} {t : Trace} (h : t.degree = d) (x : Sample) :
    (Buffer.filling t).withSample d x =
      if t.post.length < 63 then .filling { t with post := t.post ++ [x] }
      else .complete { t with post := t.post ++ [x] } := if_pos h

theorem Buffer.withSample_other {d : Degree} {y : Buffer} (h : ∀ t, y = .filling t → t.degree ≠ d) (x : Sample) :
    y.withSample d x = y := by
  cases y with
  | filling t => exact if_neg (h t rfl)
  | _ => rfl

theorem Buffer.completing_filling {d : Degree} {t : Trace} (h : t.degree = d) (hfull : 63 ≤ t.post.length) :
    (Buffer.filling t).completing d = some t := if_pos ⟨h, hfull⟩

theorem Buffer.completing_eq_none {d : Degree} {y : Buffer}
    (h : ∀ t, y = .filling t → t.degree = d → t.post.length < 63) : y.completing d = none := by
  cases y with
  | filling t => exact if_neg fun ⟨hd, hfull⟩ => Nat.not_lt.mpr hfull (h t rfl hd)
  | _ => rfl

/-- The READY report of buffer `b`, where the sample completes it. -/
def Buffer.readyReports (d : Degree) (now : Word32) (b : BufferNo) (y : Buffer) : List HandedReport :=
  ((y.completing d).map fun t =>
    { report := .captureReady b d t.key t.at_ t.pre.length now, afterSpan := false }).toList

theorem Buffer.readyReports_of_some {d : Degree} {y : Buffer} {t : Trace} (h : y.completing d = some t) (now : Word32)
    (b : BufferNo) : y.readyReports d now b =
      [{ report := .captureReady b d t.key t.at_ t.pre.length now, afterSpan := false }] := by
  rw [readyReports, h]
  rfl

theorem Buffer.readyReports_of_none {d : Degree} {y : Buffer} (h : y.completing d = none) (now : Word32)
    (b : BufferNo) : y.readyReports d now b = [] := by
  rw [readyReports, h]
  rfl

/-- The capture unit once buffer `b` has met a sample of degree `d`. -/
def CaptureUnit.fill (c : CaptureUnit) (d : Degree) (x : Sample) (b : BufferNo) : CaptureUnit :=
  { c with
    buffers := put c.buffers b ((look c.buffers b).withSample d x)
    pointer := if ((look c.buffers b).completing d).isSome then otherBuffer b else c.pointer }

theorem State.fillBuffer_passed {s : State} {d : Degree} {b : BufferNo}
    (h : ∀ t, look s.capture.buffers b = .filling t → t.degree ≠ d) (x : Sample) : State.fillBuffer d x s b = s := by
  unfold State.fillBuffer
  split
  · next t hb => exact if_neg (h t hb)
  all_goals rfl

theorem State.fillBuffer_below {s : State} {d : Degree} {b : BufferNo} {t : Trace}
    (hb : look s.capture.buffers b = .filling t) (hd : t.degree = d) (hroom : t.post.length < 63) (x : Sample) :
    State.fillBuffer d x s b = s.setCapture { s.capture with
      buffers := put s.capture.buffers b (.filling { t with post := t.post ++ [x] }) } := by
  have hlength : (t.post ++ [x]).length < ringCapacity := by
    rw [List.length_append]
    exact Nat.succ_lt_succ hroom
  simp only [State.fillBuffer, hb, if_pos hd, if_pos hlength]

theorem State.fillBuffer_full {s : State} {d : Degree} {b : BufferNo} {t : Trace}
    (hb : look s.capture.buffers b = .filling t) (hd : t.degree = d) (hfull : 63 ≤ t.post.length) (x : Sample) :
    State.fillBuffer d x s b = (s.setCapture { s.capture with
      buffers := put s.capture.buffers b (.complete { t with post := t.post ++ [x] })
      pointer := otherBuffer b }).handReport (.captureReady b d t.key t.at_ t.pre.length s.now) false := by
  have hlength : ¬(t.post ++ [x]).length < ringCapacity := by
    rw [List.length_append]
    exact Nat.not_lt.mpr (Nat.succ_le_succ hfull)
  simp only [State.fillBuffer, hb, if_pos hd, if_neg hlength]

theorem State.fillBuffer_eq (d : Degree) (x : Sample) (s : State) (b : BufferNo) :
    State.fillBuffer d x s b = { s with
      capture := s.capture.fill d x b
      transit := { s.transit with
        reports := s.transit.reports ++ (look s.capture.buffers b).readyReports d s.now b } } := by
  by_cases htakes : ∃ t, look s.capture.buffers b = .filling t ∧ t.degree = d
  case neg =>
    have hpass : ∀ t, look s.capture.buffers b = .filling t → t.degree ≠ d := fun t hb hd => htakes ⟨t, hb, hd⟩
    have hnone := Buffer.completing_eq_none fun t hb hd => absurd hd (hpass t hb)
    rw [State.fillBuffer_passed hpass, CaptureUnit.fill, Buffer.withSample_other hpass, put_look,
      Buffer.readyReports_of_none hnone, hnone, List.append_nil]
    rfl
  case pos =>
    obtain ⟨t, hb, hd⟩ := htakes
    rcases Nat.lt_or_ge t.post.length 63 with hroom | hfull
    · have hnone : (Buffer.filling t).completing d = none := if_neg fun ⟨_, hfull⟩ => Nat.not_lt.mpr hfull hroom
      rw [State.fillBuffer_below hb hd hroom, CaptureUnit.fill, hb, Buffer.withSample_filling hd, if_pos hroom,
        Buffer.readyReports_of_none hnone, hnone, List.append_nil]
      rfl
    · have hsome := Buffer.completing_filling hd hfull
      rw [State.fillBuffer_full hb hd hfull, CaptureUnit.fill, hb, Buffer.withSample_filling hd,
        if_neg (Nat.not_lt.mpr hfull), Buffer.readyReports_of_some hsome, hsome]
      rfl

/-! ### Both buffers and the ring at a sample (R155, R159) -/

/-- The capture unit after a sample of degree `d`: its ring first, then the buffer that the latest trigger did not take,
then the one that it took. -/
def CaptureUnit.takeSample (c : CaptureUnit) (d : Degree) (x : Sample) : CaptureUnit :=
  (({ c with rings := put c.rings d (appendSample (look c.rings d) x) } : CaptureUnit).fill d x
    (otherBuffer c.latest)).fill d x c.latest

theorem appendSample_eq (l : List Sample) (x : Sample) : appendSample l x = (l ++ [x]).drop (l.length - 63) :=
  congrArg (List.drop · (l ++ [x])) (Nat.succ_sub_succ l.length 63)

/-- The READY reports of a sample of degree `d`, in the order in which the buffers meet it. -/
def CaptureUnit.sampleReports (c : CaptureUnit) (d : Degree) (now : Word32) : List HandedReport :=
  (look c.buffers (otherBuffer c.latest)).readyReports d now (otherBuffer c.latest) ++
    (look c.buffers c.latest).readyReports d now c.latest

section

variable (c : CaptureUnit) (d : Degree) (x : Sample)

theorem CaptureUnit.look_fill (a b : BufferNo) : look (c.fill d x a).buffers b =
    if a = b then (look c.buffers a).withSample d x else look c.buffers b := look_put ..

theorem CaptureUnit.fill_pointer (b : BufferNo) : (c.fill d x b).pointer =
    if ((look c.buffers b).completing d).isSome then otherBuffer b else c.pointer := rfl

theorem CaptureUnit.takeSample_latest : (c.takeSample d x).latest = c.latest := rfl

theorem CaptureUnit.takeSample_rings :
    (c.takeSample d x).rings = put c.rings d (appendSample (look c.rings d) x) := rfl

/-- Each buffer meets the sample once, as it stood before. -/
theorem CaptureUnit.look_takeSample (b : BufferNo) :
    look (c.takeSample d x).buffers b = (look c.buffers b).withSample d x := by
  rw [CaptureUnit.takeSample, CaptureUnit.look_fill, CaptureUnit.look_fill, if_neg (otherBuffer_ne c.latest),
    CaptureUnit.look_fill]
  by_cases h : c.latest = b
  · rw [if_pos h, h]
  · rw [if_neg h, otherBuffer_eq_of_ne h, if_pos rfl]

/-- The buffer that meets the sample last has the last word on the pointer. -/
theorem CaptureUnit.takeSample_pointer : (c.takeSample d x).pointer =
    if ((look c.buffers c.latest).completing d).isSome then otherBuffer c.latest
    else if ((look c.buffers (otherBuffer c.latest)).completing d).isSome then c.latest else c.pointer := by
  have htwice : otherBuffer (otherBuffer c.latest) = c.latest := otherBuffer_eq_of_ne (otherBuffer_ne _)
  rw [CaptureUnit.takeSample, CaptureUnit.fill_pointer, CaptureUnit.fill_pointer, CaptureUnit.look_fill,
    if_neg (otherBuffer_ne c.latest), htwice]

end

theorem State.takeSample_eq (s : State) (d : Degree) (x : Sample) : s.takeSample d x = { s with
    capture := s.capture.takeSample d x
    transit := { s.transit with reports := s.transit.reports ++ s.capture.sampleReports d s.now } } := by
  rw [CaptureUnit.sampleReports, ← List.append_assoc]
  simp only [State.takeSample, List.foldl, State.fillBuffer_eq, State.setCapture, CaptureUnit.look_fill,
    if_neg (otherBuffer_ne _)]
  rfl

theorem execHistorySample_taken {s : State} {d : Degree} {x : Sample} (h : oldest s.transit.samples d = some x) :
    exec (.historySample d) s = .next { s with
      capture := s.capture.takeSample d x
      transit := { s.transit with
        samples := dropOldest s.transit.samples d
        reports := s.transit.reports ++ s.capture.sampleReports d s.now } } := by
  simp only [exec, execHistorySample, h, State.takeSample_eq]

section

variable {c : CaptureUnit} {d : Degree} (x : Sample) (now : Word32)

/-- Neither buffer is completed. -/
theorem CaptureUnit.takeSample_none (h : ∀ b, (look c.buffers b).completing d = none) :
    (c.takeSample d x).pointer = c.pointer ∧ c.sampleReports d now = [] := by
  rw [CaptureUnit.takeSample_pointer, CaptureUnit.sampleReports, Buffer.readyReports_of_none (h _),
    Buffer.readyReports_of_none (h _), h, h]
  exact ⟨rfl, rfl⟩

/-- Buffer `a` alone is completed, whether it meets the sample first or last. -/
theorem CaptureUnit.takeSample_one {a b : BufferNo} {t : Trace} (hne : a ≠ b)
    (ha : (look c.buffers a).completing d = some t) (hb : (look c.buffers b).completing d = none) :
    (c.takeSample d x).pointer = b ∧ c.sampleReports d now =
      [{ report := .captureReady a d t.key t.at_ t.pre.length now, afterSpan := false }] := by
  rw [CaptureUnit.takeSample_pointer, CaptureUnit.sampleReports]
  by_cases hlatest : c.latest = a
  · rw [hlatest, otherBuffer_eq_of_ne hne, Buffer.readyReports_of_none hb, Buffer.readyReports_of_some ha, ha]
    exact ⟨rfl, rfl⟩
  · have hb' : c.latest = b := by rw [← otherBuffer_eq_of_ne (Ne.symm hlatest), otherBuffer_eq_of_ne hne]
    rw [hb', otherBuffer_eq_of_ne hne.symm, Buffer.readyReports_of_none hb, Buffer.readyReports_of_some ha, ha, hb]
    exact ⟨rfl, rfl⟩

/-- Both buffers are completed, the latest trigger's last. -/
theorem CaptureUnit.takeSample_both {a : BufferNo} {t u : Trace} (hne : a ≠ c.latest)
    (ha : (look c.buffers a).completing d = some t) (hb : (look c.buffers c.latest).completing d = some u) :
    (c.takeSample d x).pointer = a ∧ c.sampleReports d now =
      [{ report := .captureReady a d t.key t.at_ t.pre.length now, afterSpan := false },
        { report := .captureReady c.latest d u.key u.at_ u.pre.length now, afterSpan := false }] := by
  rw [CaptureUnit.takeSample_pointer, CaptureUnit.sampleReports, otherBuffer_eq_of_ne hne.symm,
    Buffer.readyReports_of_some ha, Buffer.readyReports_of_some hb, hb]
  exact ⟨rfl, rfl⟩

end

/-! ### A trigger (R157, R160) -/

theorem Buffer.isEmpty_iff {y : Buffer} : y.isEmpty = true ↔ y = .empty := by
  cases y <;> simp [Buffer.isEmpty]

theorem CaptureUnit.choose_pointer {c : CaptureUnit} (h : look c.buffers c.pointer = .empty) :
    c.choose = some c.pointer := if_pos (Buffer.isEmpty_iff.mpr h)

theorem CaptureUnit.choose_other {c : CaptureUnit} {b : BufferNo} (hne : c.pointer ≠ b)
    (hfull : look c.buffers c.pointer ≠ .empty) (h : look c.buffers b = .empty) : c.choose = some b := by
  rw [CaptureUnit.choose, if_neg (hfull ∘ Buffer.isEmpty_iff.mp), otherBuffer_eq_of_ne hne,
    if_pos (Buffer.isEmpty_iff.mpr h)]

theorem CaptureUnit.choose_none {c : CaptureUnit} (h : ∀ b, look c.buffers b ≠ .empty) : c.choose = none := by
  rw [CaptureUnit.choose, if_neg (h _ ∘ Buffer.isEmpty_iff.mp), if_neg (h _ ∘ Buffer.isEmpty_iff.mp)]

theorem execCaptureTrigger_chosen {s : State} {d : Degree} {k : Key} {b : BufferNo}
    (h : oldest s.transit.triggers d = some k) (hb : s.capture.choose = some b) :
    exec (.captureTrigger d) s = .next { s with
      capture := { s.capture with
        buffers := put s.capture.buffers b
          (.filling { degree := d, key := k, at_ := s.now, pre := look s.capture.rings d, post := [] })
        latest := b }
      transit := { s.transit with triggers := dropOldest s.transit.triggers d } } := by
  simp only [exec, execCaptureTrigger, h, State.takeTrigger, hb]
  rfl

theorem execCaptureTrigger_skipped {s : State} {d : Degree} {k : Key} (h : oldest s.transit.triggers d = some k)
    (hnone : s.capture.choose = none) : exec (.captureTrigger d) s = .next { s with
      transit := { s.transit with
        triggers := dropOldest s.transit.triggers d
        reports := s.transit.reports ++ [{ report := .captureSkipped d k s.now, afterSpan := false }] } } := by
  simp only [exec, execCaptureTrigger, h, State.takeTrigger, hnone]
  rfl

/-! ### A release (R162) -/

theorem State.takeReleaseCapture_complete {s : State} {n : BufferNo} {t : Trace}
    (h : look s.capture.buffers n = .complete t) : s.takeReleaseCapture (BitVec.ofNat 8 n.val) =
      ({ s with capture := { s.capture with buffers := put s.capture.buffers n .empty } }, [0x00]) := by
  simp only [State.takeReleaseCapture, index?_ofNat (show 2 ≤ 256 by decide), h]
  rfl

theorem State.takeReleaseCapture_notComplete {s : State} {n : BufferNo}
    (h : ∀ t, look s.capture.buffers n ≠ .complete t) :
    s.takeReleaseCapture (BitVec.ofNat 8 n.val) = (s, [codeNotOwned]) := by
  simp only [State.takeReleaseCapture, index?_ofNat (show 2 ≤ 256 by decide)]
  match hbuffer : look s.capture.buffers n with
  | .empty => rfl
  | .filling _ => rfl
  | .complete t => exact absurd hbuffer (h t)

/-- Settles O51: a sample by which buffers it completes, a trigger by the buffer it chooses, a release by the buffer's
phase. -/
theorem capturesAreFilledAndReleased : Obligations.CapturesAreFilledAndReleased := by
  intro s
  refine ⟨fun d x hx => ?sample, fun d k hk => ⟨_, rfl, fun b c hchosen => ?taken, fun hfull => ?skipped⟩,
    fun a b ha => ⟨fun t ht => ?released, fun hother => ?notOwned⟩⟩
  case sample =>
    refine ⟨_, execHistorySample_taken hx, ?ring, ?otherRings, fun b t hb hd => ?filled, fun b hb => ?passed,
      fun hroom => ?none, fun b c t hne hb hd hfull hroom => ?one,
      fun b c t v hne hlatest hb hc hd hd' hfull hfull' => ?both,
      CaptureUnit.takeSample_latest .., rfl⟩
    case ring => rw [CaptureUnit.takeSample_rings, look_put_same, appendSample_eq]
    case otherRings =>
      intro e he
      rw [CaptureUnit.takeSample_rings, look_put_ne _ _ he.symm]
    case filled => rw [CaptureUnit.look_takeSample, hb, Buffer.withSample_filling hd]
    case passed => rw [CaptureUnit.look_takeSample, Buffer.withSample_other hb]
    case none =>
      obtain ⟨hpointer, hreports⟩ := CaptureUnit.takeSample_none (c := s.capture) x s.now
        fun b => Buffer.completing_eq_none (hroom b)
      exact ⟨hpointer, by rw [hreports, List.append_nil]⟩
    case one =>
      obtain ⟨hpointer, hreports⟩ := CaptureUnit.takeSample_one x s.now hne
        (hb ▸ Buffer.completing_filling hd hfull) (Buffer.completing_eq_none hroom)
      exact ⟨hpointer, by rw [hreports]⟩
    case both =>
      subst hlatest
      obtain ⟨hpointer, hreports⟩ := CaptureUnit.takeSample_both x s.now hne
        (hb ▸ Buffer.completing_filling hd hfull) (hc ▸ Buffer.completing_filling hd' hfull')
      exact ⟨hpointer, by rw [hreports]⟩
  case taken =>
    have hchoose : s.capture.choose = some b := by
      obtain ⟨hempty, rfl | ⟨rfl, hne, hfull⟩⟩ := hchosen
      · exact CaptureUnit.choose_pointer hempty
      · exact CaptureUnit.choose_other hne hfull hempty
    exact execCaptureTrigger_chosen hk hchoose
  case skipped => exact execCaptureTrigger_skipped hk (CaptureUnit.choose_none hfull)
  case released => exact ha ▸ serve_answer (.releaseCapture _) (State.takeReleaseCapture_complete ht)
  case notOwned => exact ha ▸ serve_answer (.releaseCapture _) (State.takeReleaseCapture_notComplete hother)

end Sys2Proof.Machine
end

section
/-! SUPPORT. What a command does at the host link unit, said once for all 77. A command that is neither a request nor an
event of the host link unit leaves the unit, the port and the command queue as they stand; a request but RESET_PART is
served, by its owning block's change of state and a reply that is not empty (R169). -/

namespace Sys2Proof.Machine

/-- `t` has the host link unit, the port and the command queue of `s`. -/
structure HostStands (s t : State) : Prop where
  link : t.link = s.link
  port : t.port = s.port
  pending : t.pending = s.pending

theorem HostStands.refl (s : State) : HostStands s s := ⟨rfl, rfl, rfl⟩

theorem HostStands.trans {s t u : State} (h : HostStands s t) (k : HostStands t u) : HostStands s u :=
  ⟨k.link.trans h.link, k.port.trans h.port, k.pending.trans h.pending⟩

/-- A step that leaves the host link unit, after a write elsewhere. -/
theorem HostStands.after {s t u : State} (h : HostStands t u) (hst : HostStands s t := by exact ⟨rfl, rfl, rfl⟩) :
    HostStands s u := hst.trans h

theorem HostStands.foldl {α : Type} {f : State → α → State} (h : ∀ s x, HostStands s (f s x)) (l : List α)
    (s : State) : HostStands s (l.foldl f s) := by
  induction l generalizing s with
  | nil => exact .refl s
  | cons x l ih => exact (h s x).trans (ih (f s x))

theorem GrantSide.host {s t : State} (h : GrantSide s t) : HostStands s t := ⟨h.link, h.port, h.pending⟩

theorem CtrlSide.host {s t : State} (h : CtrlSide s t) : HostStands s t := ⟨h.link, h.port, h.pending⟩

theorem CondSide.host {s t : State} (h : CondSide s t) : HostStands s t := ⟨h.link, h.port, h.pending⟩

theorem LineSide.host {s t : State} (h : LineSide s t) : HostStands s t := ⟨h.link, h.port, h.pending⟩

theorem ClaimSide.host {s t : State} (h : ClaimSide s t) : HostStands s t := ⟨h.link, h.port, h.pending⟩

theorem CommitSide.host {s t : State} (h : CommitSide s t) : HostStands s t := ⟨h.link, h.port, h.pending⟩

/-- A command answers a next state, and that state has a property. -/
def Completes (P : State → Prop) (r : Result) : Prop := ∃ t, r = .next t ∧ P t

theorem Completes.next {P : State → Prop} {t : State} (h : P t) : Completes P (.next t) := ⟨t, rfl, h⟩

theorem Completes.mono {P Q : State → Prop} {r : Result} (h : Completes P r) (hPQ : ∀ t, P t → Q t) :
    Completes Q r := by
  obtain ⟨t, ht, hP⟩ := h
  exact ⟨t, ht, hPQ t hP⟩

theorem Completes.answers {P : State → Prop} {r : Result} (h : Completes P r) : Answers P r := by
  obtain ⟨t, rfl, hP⟩ := h
  exact .next hP

variable (s : State)

/-! ### The operations that have no side of their own -/

theorem State.distribute_host (c : ChannelNo) (v : Int) : HostStands s (s.distribute c v) := by
  unfold State.distribute
  dsimp only
  split
  · exact (State.feedDark_side s _ v).host.trans ⟨rfl, rfl, rfl⟩
  · exact .refl s
  · exact (State.feedReflect_side _ _ _).host.after
  · exact (State.feedPump_side s _ v).host

theorem State.forceClear_host (d : Degree) : HostStands s (s.forceClear d) := by
  unfold State.forceClear
  dsimp only
  split
  · exact (State.clearDue_side _ _ _).host.after
  · exact ⟨rfl, rfl, rfl⟩

theorem State.acceptContact_host (k : ContactNo) : HostStands s (s.acceptContact k) := by
  unfold State.acceptContact
  dsimp only
  split
  · exact (State.contactRaise_side _ k _).host.after
  · exact ⟨rfl, rfl, rfl⟩
  · exact (State.contactClear_side _ k _).host.after

theorem State.lookUp_host (k : Key) : HostStands s (s.lookUp k) := by
  rw [State.lookUp_eq]
  exact ⟨rfl, rfl, rfl⟩

theorem State.reevaluate_host : HostStands s s.reevaluate := by
  rw [State.reevaluate_eq]
  exact ⟨rfl, rfl, rfl⟩

theorem State.takeSample_host (d : Degree) (x : Sample) : HostStands s (s.takeSample d x) := by
  rw [State.takeSample_eq]
  exact ⟨rfl, rfl, rfl⟩

theorem State.takeTrigger_host (d : Degree) (k : Key) : HostStands s (s.takeTrigger d k) := by
  unfold State.takeTrigger
  split <;> exact ⟨rfl, rfl, rfl⟩

theorem State.takeNotice_host (n : Notice) : HostStands s (s.takeNotice n) := by
  unfold State.takeNotice
  split
  · split
    · exact (State.endClaim_side s _).host
    · exact .refl s
  · exact .refl s

theorem State.leaveReset_host : HostStands s s.leaveReset := by
  unfold State.leaveReset
  split
  · exact (State.raise_side _ _).host.after
  · exact .refl s

/-! ### The events of the other blocks -/

/-- The events of the host link unit, RESET_PART, which it takes itself, and the power-on reset. -/
def hostEvent : Instr → Bool
  | .powerOnReset | .reportEnqueue _ | .hostByteReceived _ | .characterError | .resync | .gapTimerExpiry
  | .frameComplete | .replySent | .resetPart => true
  | _ => false

/-- A command that is neither an event of the host link unit nor a request completes, and leaves the unit, the port and
the queue. -/
theorem exec_hostStands (i : Instr) (hi : (hostEvent i || (requestKind i).isSome) = false) :
    Completes (HostStands s) (exec i s) := by
  cases i with
  | monitorReading c code valid =>
    exact .next ((State.feedFault_side _ c _).host.after.trans (State.distribute_host _ c _))
  | historySample d =>
    simp only [exec, execHistorySample]
    split
    · exact .next (State.takeSample_host _ d _).after
    · exact .next (.refl s)
  | lookup =>
    simp only [exec, execLookup]
    split
    · exact .next (State.lookUp_host _ _).after
    all_goals exact .next (.refl s)
  | snapshotWrite =>
    simp only [exec, execSnapshotWrite]
    split
    · exact .next (State.writeSnapshot_side _ _ _ _).host.after
    all_goals exact .next (.refl s)
  | forcedClear d =>
    simp only [exec, execForcedClear]
    split
    · exact .next (State.forceClear_host _ d).after
    · exact .next (.refl s)
  | contactLevelChange k => exact .next ⟨rfl, rfl, rfl⟩
  | debounceExpiry k =>
    simp only [exec, execDebounceExpiry]
    split
    · exact .next (State.acceptContact_host s k)
    · exact .next (.refl s)
  | masterShutAssertion =>
    refine .next ?_
    split
    · exact ⟨rfl, rfl, rfl⟩
    · exact (State.raise_side _ _).host.after
  | masterShutDeassertion => exact .next ⟨rfl, rfl, rfl⟩
  | clearDelayExpiry =>
    simp only [exec, execClearDelayExpiry]
    split
    · exact .next (State.clearDue_side _ _ _).host.after
    · exact .next (.refl s)
  | restrictionOrder =>
    simp only [exec, execRestrictionOrder]
    split
    · exact .next (State.restrict_side _ _ _ _ _).host.after
    all_goals exact .next (.refl s)
  | clearAtGrantUnit =>
    simp only [exec, execClearAtGrantUnit]
    split
    · exact .next (GrantSide.foldl (State.updateSource_side _) _ _).host.after
    all_goals exact .next (.refl s)
  | removalOrder =>
    simp only [exec, execRemovalOrder]
    split
    · exact .next (GrantSide.foldl (State.updateSource_side _) _ _).host.after
    all_goals exact .next (.refl s)
  | cutOrder =>
    simp only [exec, execCutOrder]
    split
    · exact .next (State.takeCut_side _ _ _).host.after
    all_goals exact .next (.refl s)
  | lockOrder =>
    simp only [exec, execLockOrder]
    split
    · exact .next (State.takeLock_side _ _ _).host.after
    all_goals exact .next (.refl s)
  | clearAtSpanController =>
    simp only [exec, execClearAtSpanController]
    split
    · exact .next (State.takeSpanClear_side _ _ _).host.after
    all_goals exact .next (.refl s)
  | blockerReexamination =>
    simp only [exec, execBlockerReexamination]
    split
    · exact .next (State.reexamine_side _ _).host.after
    all_goals exact .next (.refl s)
  | settleExpiry d =>
    simp only [exec, execSettleExpiry]
    split
    · exact .next (State.enterAwait_side s ..).host
    · exact .next (.refl s)
  | intervalExpiry d =>
    simp only [exec, execIntervalExpiry]
    split
    · split
      · exact .next ⟨rfl, rfl, rfl⟩
      · exact .next (State.intervalInAwait_side _ d).host.after
      all_goals exact .next (.refl s)
    · exact .next (.refl s)
  | probeTimerExpiry d =>
    simp only [exec, execProbeTimerExpiry]
    split
    · split
      · exact .next (State.moveSpan_side s ..).host
      · exact .next (State.enterAwait_side s ..).host
      all_goals exact .next (State.failProbe_side s d).host
    · exact .next (.refl s)
  | requestTimerExpiry d =>
    simp only [exec, execRequestTimerExpiry]
    split <;> exact .next ⟨rfl, rfl, rfl⟩
  | rampStepExpiry d =>
    simp only [exec, execRampStepExpiry]
    split
    · exact .next (State.stepRamp_side s d).host
    · exact .next (.refl s)
  | farWordAtSpanController d =>
    simp only [exec, execFarWordAtSpanController]
    split
    · exact .next (State.takeFarWord_side _ d _).host.after
    all_goals exact .next (.refl s)
  | siteOrdinalChange d =>
    simp only [exec, execSiteOrdinalChange]
    split
    · exact .next (State.takeOrdinalChange_side _ d _).host.after
    all_goals exact .next (.refl s)
  | spanWordSend d => exact .next ⟨rfl, rfl, rfl⟩
  | spanWordReceived d l idle =>
    have hbytes : HostStands s (l.foldl (State.receiveByte d) s) :=
      (LineSide.foldl (State.receiveByte_side d) l s).host
    refine .next ?_
    split
    · exact hbytes.trans (State.fallIdle_side _ d).host
    · exact hbytes
  | lineTimerExpiry d =>
    simp only [exec, execLineTimerExpiry]
    split
    · exact .next (State.lineDecides_side _ _ _ _).host.after
    · exact .next (.refl s)
  | captureTrigger d =>
    simp only [exec, execCaptureTrigger]
    split
    · exact .next (State.takeTrigger_host _ d _).after
    · exact .next (.refl s)
  | claimNotice n =>
    simp only [exec, execClaimNotice]
    split
    · exact .next (State.takeNotice_host (s.dropClaimEvent (.notice n)) n).after
    · exact .next (.refl s)
  | claimBreak c =>
    simp only [exec, execClaimBreak]
    split
    · exact .next (State.endClaim_side (s.dropClaimEvent (.breakBy c)) _).host.after
    · exact .next (.refl s)
  | claimLifeExpiry =>
    simp only [exec, execClaimLifeExpiry]
    split
    · refine .next ?_
      split
      · exact (State.endClaim_side s _).host
      · exact .refl s
    · exact .next (.refl s)
  | counterZeroing =>
    simp only [exec, execCounterZeroing]
    split <;> exact .next ⟨rfl, rfl, rfl⟩
  | reevaluation =>
    simp only [exec, execReevaluation]
    split
    · exact .next (State.reevaluate_host _).after
    all_goals exact .next (.refl s)
  | rewrittenSnapshotWrite =>
    simp only [exec, execRewrittenSnapshotWrite]
    split
    · exact .next (State.rewriteSnapshot_side _ _ _ _).host.after
    all_goals exact .next (.refl s)
  | _ => cases hi

/-! ### The requests -/

/-- What the owning block of a request leaves of the host link unit: the framer, the slots and the replies stand, no
record is added to the report queue, and where it is read or the notify mask is set the attention line is derived anew
(R172 to R174). -/
structure RequestTaken (s u : State) : Prop where
  slots : u.link = { s.link with
    reports := u.link.reports, overflow := u.link.overflow, notify := u.link.notify, attention := u.link.attention }
  queue : u.link.reports.length ≤ s.link.reports.length
  attention : u.link = s.link ∨ u.link.attention = attentionOf u.link.reports u.link.notify
  port : u.port = s.port
  pending : u.pending = s.pending

theorem HostStands.taken {s u : State} (h : HostStands s u) : RequestTaken s u := by
  obtain ⟨hlink, hport, hpending⟩ := h
  exact ⟨by rw [hlink], by rw [hlink], .inl hlink, hport, hpending⟩

/-- The owning block of a request takes it and gives a reply that is not empty. -/
structure FormsReply (s : State) (r : State × List Byte) : Prop where
  taken : RequestTaken s r.1
  body : r.2 ≠ []

variable {s}

theorem FormsReply.of_host {r : State × List Byte} (h : HostStands s r.1) (hb : r.2 ≠ []) : FormsReply s r :=
  ⟨h.taken, hb⟩

/-- A reply to a request that changes nothing. -/
theorem FormsReply.query (b : Byte) (l : List Byte) : FormsReply s (s, b :: l) :=
  .of_host (.refl s) (List.cons_ne_nil b l)

theorem FormsReply.fitting {r : State × List Byte} (b : Bool) (h : FormsReply s r) :
    FormsReply s (refuseIllFormed b s r) := by
  unfold refuseIllFormed
  split
  · exact h
  · exact .query _ _

theorem State.commit_forms (m : DegSet) (p : Degree → Reason) {f : State → Degree → State}
    (hf : ∀ s d, CtrlSide s (f s d)) (ok : Byte) : FormsReply s (s.commit m p f ok) := by
  refine .of_host (State.commit_side s m p hf ok).host ?_
  unfold State.commit
  dsimp only
  split
  · exact List.cons_ne_nil _ _
  · split <;> exact List.cons_ne_nil _ _

theorem State.spanCommit_forms (n : Byte) (l : List Byte) (p : Degree → Reason) {f : State → Degree → State}
    (hf : ∀ s d, CtrlSide s (f s d)) (ok : Byte) : FormsReply s (s.spanCommit n l p f ok) := by
  unfold State.spanCommit
  split
  · exact .query _ _
  · exact State.commit_forms _ p hf ok

theorem State.takeSetContact_forms (k u l d t : Byte) : FormsReply s (s.takeSetContact k u l d t) := by
  unfold State.takeSetContact
  split
  · exact .of_host ((State.contactClear_side s _ _).host.trans ⟨rfl, rfl, rfl⟩) (List.cons_ne_nil _ _)
  · exact .query _ _

theorem State.takePutEntry_forms (p g : Byte) (k : RawKey) (c n : Byte) (as : List RawAction) (x w : Byte) :
    FormsReply s (s.takePutEntry p g k c n as x w) := by
  unfold State.takePutEntry
  split
  · exact .of_host ⟨rfl, rfl, rfl⟩ (List.cons_ne_nil _ _)
  · split <;> exact .of_host ⟨rfl, rfl, rfl⟩ (List.cons_ne_nil _ _)
  · exact .query _ _

theorem State.takeParkEntry_forms (e : Byte) : FormsReply s (s.takeParkEntry e) := by
  unfold State.takeParkEntry
  split
  · exact .query _ _
  · split <;> exact .of_host ⟨rfl, rfl, rfl⟩ (List.cons_ne_nil _ _)

theorem State.takeUnparkEntry_forms (e : Byte) : FormsReply s (s.takeUnparkEntry e) := by
  unfold State.takeUnparkEntry
  split
  · exact .query _ _
  · split <;> exact .of_host ⟨rfl, rfl, rfl⟩ (List.cons_ne_nil _ _)

theorem State.takeTestKey_forms (k : RawKey) (a b : Byte) : FormsReply s (s.takeTestKey k a b) := by
  unfold State.takeTestKey
  split
  · exact .query _ _
  · split <;> exact .query _ _

theorem State.takeSetSource_forms (i e d : Byte) (f r p : Half) : FormsReply s (s.takeSetSource i e d f r p) := by
  unfold State.takeSetSource
  split
  · exact .of_host (State.recompute_side _ _ _).host.after (List.cons_ne_nil _ _)
  · exact .query _ _

theorem State.takeHoldSource_forms (i h : Byte) : FormsReply s (s.takeHoldSource i h) := by
  unfold State.takeHoldSource
  split
  · next j h _ _ =>
    have hside := State.updateSource_side (fun x => { x with hold := h }) s j
    exact .of_host hside.host (List.cons_ne_nil _ _)
  · exact .query _ _

theorem State.takeReleaseLatch_forms (i : Byte) : FormsReply s (s.takeReleaseLatch i) := by
  unfold State.takeReleaseLatch
  split
  · exact .query _ _
  · split
    · exact State.commit_forms _ _ (fun t _ => (State.updateSource_side _ t _).toCtrlSide) _
    · exact .of_host (State.updateSource_side _ s _).host (List.cons_ne_nil _ _)

theorem State.takeSetSpan_forms (d : Byte) (c : RawSpanConfig) : FormsReply s (s.takeSetSpan d c) := by
  unfold State.takeSetSpan
  split
  · exact .query _ _
  · exact .of_host (State.recomputeAll_side _ _ _).host.after (List.cons_ne_nil _ _)

theorem State.takeLockRequest_forms (d : Byte) : FormsReply s (s.takeLockRequest d) := by
  unfold State.takeLockRequest
  split
  · exact .query _ _
  · exact .of_host (State.takeLock_side s _ _).host (List.cons_ne_nil _ _)

theorem State.takeSetSite_forms (o a b c d : Half) : FormsReply s (s.takeSetSite o a b c d) := by
  refine .of_host ?_ (List.cons_ne_nil _ _)
  unfold State.takeSetSite
  dsimp only
  split
  · exact ⟨rfl, rfl, rfl⟩
  · exact (HostStands.foldl (fun t d => ⟨rfl, rfl, rfl⟩ : ∀ t d, HostStands t (State.handLine t d _)) _ _).after

theorem State.takeGetLine_forms (d : Byte) : FormsReply s (s.takeGetLine d) := by
  unfold State.takeGetLine
  split
  · exact .query _ _
  · split <;> exact .of_host ⟨rfl, rfl, rfl⟩ (List.cons_ne_nil _ _)

theorem State.takeSelectProfile_forms (p : Byte) : FormsReply s (s.takeSelectProfile p) := by
  unfold State.takeSelectProfile
  split
  · exact .query _ _
  · refine .of_host ?_ (List.cons_ne_nil _ _)
    dsimp only
    split <;> exact ⟨rfl, rfl, rfl⟩

theorem State.takeClaim_forms (n : Byte) (l : List Byte) : FormsReply s (s.takeClaim n l) := by
  unfold State.takeClaim
  split
  · exact .query _ _
  · exact .of_host ((State.endClaim_side s .replaced).host.trans ⟨rfl, rfl, rfl⟩) (List.cons_ne_nil _ _)

theorem State.takeReadCapture_forms (b p : Byte) : FormsReply s (s.takeReadCapture b p) := by
  unfold State.takeReadCapture
  split
  · split <;> exact .query _ _
  · exact .query _ _

theorem State.takeReleaseCapture_forms (b : Byte) : FormsReply s (s.takeReleaseCapture b) := by
  unfold State.takeReleaseCapture
  split
  · exact .query _ _
  · split <;> exact .of_host ⟨rfl, rfl, rfl⟩ (List.cons_ne_nil _ _)

theorem State.takeReadReports_forms : FormsReply s s.takeReadReports :=
  ⟨⟨rfl, by simp [State.takeReadReports, HostLink.withReports], .inr rfl, rfl, rfl⟩, List.cons_ne_nil _ _⟩

theorem State.takeSetNotify_forms (m : Byte) : FormsReply s (s.takeSetNotify m) := by
  unfold State.takeSetNotify
  split
  · exact ⟨⟨rfl, Nat.le_refl _, .inr rfl, rfl, rfl⟩, List.cons_ne_nil _ _⟩
  · exact .query _ _

/-- Every request but RESET_PART is served: its owning block takes it, and its reply is formed in the same event. -/
theorem exec_serves (i : Instr) (s : State) (hi : requestKind i ≠ none) (hreset : i ≠ .resetPart) :
    ∃ r, exec i s = .next (State.serve i r) ∧ FormsReply s r := by
  cases i with
  | setChannel c d g =>
    refine ⟨_, rfl, ?_⟩
    unfold State.takeSetChannel
    split <;> exact .of_host ⟨rfl, rfl, rfl⟩ (List.cons_ne_nil _ _)
  | getReading a b =>
    refine ⟨_, rfl, ?_⟩
    unfold State.takeGetReading
    split <;> exact .query _ _
  | setContact k u l d t => exact ⟨_, rfl, State.takeSetContact_forms k u l d t⟩
  | getContact => exact ⟨_, rfl, .query _ _⟩
  | getConditions a b =>
    refine ⟨_, rfl, ?_⟩
    unfold State.takeGetConditions
    dsimp only
    split_ifs <;> exact .query _ _
  | putEntry p g k c n as x w => exact ⟨_, rfl, (State.takePutEntry_forms p g k c n as x w).fitting _⟩
  | parkEntry e => exact ⟨_, rfl, State.takeParkEntry_forms e⟩
  | unparkEntry e => exact ⟨_, rfl, State.takeUnparkEntry_forms e⟩
  | freeEntry e =>
    refine ⟨_, rfl, ?_⟩
    unfold State.takeFreeEntry
    split <;> exact .of_host ⟨rfl, rfl, rfl⟩ (List.cons_ne_nil _ _)
  | getEntry e =>
    refine ⟨_, rfl, ?_⟩
    unfold State.takeGetEntry
    split <;> exact .query _ _
  | testKey k a b => exact ⟨_, rfl, State.takeTestKey_forms k a b⟩
  | setSource j e d f r p => exact ⟨_, rfl, State.takeSetSource_forms j e d f r p⟩
  | holdSource j h => exact ⟨_, rfl, State.takeHoldSource_forms j h⟩
  | releaseLatch j => exact ⟨_, rfl, State.takeReleaseLatch_forms j⟩
  | getSource j =>
    refine ⟨_, rfl, ?_⟩
    unfold State.takeGetSource
    split <;> exact .query _ _
  | setSpan d c => exact ⟨_, rfl, State.takeSetSpan_forms d c⟩
  | lock d => exact ⟨_, rfl, State.takeLockRequest_forms d⟩
  | resume n l => exact ⟨_, rfl, (State.spanCommit_forms n l _ (State.release_side _) _).fitting _⟩
  | unlock n l => exact ⟨_, rfl, (State.spanCommit_forms n l _ (State.release_side _) _).fitting _⟩
  | getSpan d =>
    refine ⟨_, rfl, ?_⟩
    unfold State.takeGetSpan
    split <;> exact .query _ _
  | probeNow n t l => exact ⟨_, rfl, (State.spanCommit_forms n l _ (State.probeManually_side _) _).fitting _⟩
  | setSite o a b c d => exact ⟨_, rfl, State.takeSetSite_forms o a b c d⟩
  | getLine d => exact ⟨_, rfl, State.takeGetLine_forms d⟩
  | setProfile p d l a m =>
    refine ⟨_, rfl, ?_⟩
    unfold State.takeSetProfile
    split <;> exact .of_host ⟨rfl, rfl, rfl⟩ (List.cons_ne_nil _ _)
  | getProfile p d =>
    refine ⟨_, rfl, ?_⟩
    unfold State.takeGetProfile
    split <;> exact .query _ _
  | selectProfile p => exact ⟨_, rfl, State.takeSelectProfile_forms p⟩
  | claim n l => exact ⟨_, rfl, (State.takeClaim_forms n l).fitting _⟩
  | getClaim => exact ⟨_, rfl, .query _ _⟩
  | readCapture b p => exact ⟨_, rfl, State.takeReadCapture_forms b p⟩
  | releaseCapture b => exact ⟨_, rfl, State.takeReleaseCapture_forms b⟩
  | getCapture => exact ⟨_, rfl, .query _ _⟩
  | readReports => exact ⟨_, rfl, State.takeReadReports_forms⟩
  | setNotify m => exact ⟨_, rfl, State.takeSetNotify_forms m⟩
  | identify => exact ⟨_, rfl, .query _ _⟩
  | resetPart => exact absurd rfl hreset
  | _ => exact absurd rfl hi

/-- Every command is of one of three sorts: it leaves the host link unit, or it is a request that is served, or it is
one of the unit's own events. -/
theorem exec_sorts (i : Instr) (s : State) : Completes (HostStands s) (exec i s) ∨
    (∃ r, exec i s = .next (State.serve i r) ∧ FormsReply s r) ∨ hostEvent i = true := by
  by_cases hevent : hostEvent i = true
  · exact .inr (.inr hevent)
  · by_cases hk : requestKind i = none
    · exact .inl (exec_hostStands s i (by simp [hevent, hk]))
    · exact .inr (.inl (exec_serves i s hk fun h => hevent (h ▸ rfl)))

end Sys2Proof.Machine
end

section
/-! O59. Every step keeps the host link unit safe (R165, R166, R168, R170, R171, R174): each write of the unit keeps it,
and each command makes such writes alone. -/

namespace Sys2Proof.Machine

/-! ### The request in hand and the replies -/

/-- The command that the host link unit waits to see taken: the request in hand, which has passed the checks of R169
and is not answered. -/
theorem State.awaits_eq_some_iff {s : State} {i : Instr} : s.awaits = some i ↔ ∃ h, s.link.hand = some h ∧
    h.answered = false ∧ checkRequest h.frame.kind h.frame.payload = .request i := by
  unfold State.awaits
  constructor
  · intro h
    split at h
    · next x hx =>
      split at h
      · cases h
      · next ha =>
        split at h
        · next j hj =>
          cases h
          exact ⟨x, hx, by simpa using ha, hj⟩
        all_goals cases h
    · cases h
  · rintro ⟨h, hh, ha, hi⟩
    simp only [hh, ha, hi]
    rfl

theorem State.awaits_congr {s u : State} (h : u.link.hand = s.link.hand) : u.awaits = s.awaits := by
  unfold State.awaits
  rw [h]

theorem State.replyInHand_of_hand {s : State} {h : InHand} (hh : s.link.hand = some h) (b : List Byte) :
    s.replyInHand b = s.setLink { s.link with
      hand := some { h with answered := true }
      replies := s.link.replies ++ [{ busy := false, bytes := replyBytes h.frame b }] } := by
  rw [State.replyInHand, hh]

theorem HostLink.answered_of_hand {l : HostLink} {h : InHand} (hh : l.hand = some h) : l.answered = h.answered := by
  rw [HostLink.answered, hh]
  rfl

theorem HostLink.answered_of_empty {l : HostLink} (hh : l.hand = none) : l.answered = false := by
  rw [HostLink.answered, hh]
  rfl

theorem busyCount_append_own (l : List Reply) (b : List Byte) :
    busyCount (l ++ [{ busy := false, bytes := b }]) = busyCount l := by
  simp [busyCount]

theorem busyCount_append_busy (l : List Reply) (b : List Byte) :
    busyCount (l ++ [{ busy := true, bytes := b }]) = busyCount l + 1 := by
  simp [busyCount]

theorem ownReplies_append_own (l : List Reply) (b : List Byte) :
    ownReplies (l ++ [{ busy := false, bytes := b }]) = ownReplies l + 1 := by
  simp [ownReplies]

theorem ownReplies_append_busy (l : List Reply) (b : List Byte) :
    ownReplies (l ++ [{ busy := true, bytes := b }]) = ownReplies l := by
  simp [ownReplies]

/-! ### Each write of the unit keeps it safe -/

section
variable {l : HostLink} (hl : LinkSafe l)
include hl

theorem LinkSafe.hunt : LinkSafe l.hunt :=
  { hl with
    gap := by simp [HostLink.hunt]
    frame := fun _ _ h => nomatch h }

/-- The framer enters or stays in a phase outside HUNT, with the gap timer started (R165, R166). -/
theorem LinkSafe.receiving {p : FramerPhase} (hp : p ≠ .hunt) (n : Nat) (hframe : ∀ len kept, p = .body len kept →
    2 ≤ len.toNat ∧ len.toNat ≤ 122 ∧ kept.length < len.toNat + 2) : LinkSafe { l with phase := p, gap := some n } :=
  { hl with
    gap := by simp [hp]
    frame := hframe }

theorem LinkSafe.tick : LinkSafe { l with gap := tickTimer l.gap } :=
  { hl with gap := by rw [← hl.gap, tickTimer, Option.isSome_map] }

/-- A record joins a queue that is not full (R171, R174). -/
theorem LinkSafe.enqueue (r : Report) : LinkSafe (l.enqueue r) := by
  unfold HostLink.enqueue
  split
  · next hroom =>
    have hqueue : (l.reports ++ [r]).length ≤ 32 := by
      rw [List.length_append]
      exact hroom
    exact { hl with queue := hqueue, attention := rfl }
  · exact { hl with }

/-- The request in hand gets its reply (R170). -/
theorem LinkSafe.reply {h : InHand} (hh : l.hand = some h) (ha : h.answered = false) (b : List Byte) :
    LinkSafe { l with
      hand := some { h with answered := true }, replies := l.replies ++ [{ busy := false, bytes := b }] } := by
  have hown : ownReplies l.replies = 0 := by
    have := hl.own
    rwa [HostLink.answered_of_hand hh, ha] at this
  exact { hl with
    busy := by rw [busyCount_append_own]; exact hl.busy
    own := by rw [ownReplies_append_own, hown]; rfl
    waiting := fun _ => rfl }

/-- A request is placed in the empty slot (R168). -/
theorem LinkSafe.hold (hh : l.hand = none) (f : Frame) :
    LinkSafe { l with hand := some { frame := f, answered := false } } :=
  { hl with
    own := by rw [hl.own, HostLink.answered_of_empty hh]; rfl
    waiting := fun _ => rfl }

theorem LinkSafe.wait {h : InHand} (hh : l.hand = some h) (f : Frame) : LinkSafe { l with waiting := some f } :=
  { hl with waiting := fun _ => by rw [hh]; rfl }

theorem LinkSafe.replyBusy (hroom : busyCount l.replies < 8) (b : List Byte) :
    LinkSafe { l with replies := l.replies ++ [{ busy := true, bytes := b }] } :=
  { hl with
    busy := by rw [busyCount_append_busy]; exact hroom
    own := by rw [ownReplies_append_busy]; exact hl.own }

/-- A BUSY reply that has been sent leaves the list (R170). -/
theorem LinkSafe.busySent {r : Reply} {rest : List Reply} (hr : l.replies = r :: rest) (hbusy : r.busy = true) :
    LinkSafe { l with replies := rest } := by
  have hcount := hl.busy
  have hown := hl.own
  rw [hr] at hcount hown
  simp only [busyCount, List.filter_cons, hbusy, if_true, List.length_cons] at hcount
  simp only [ownReplies, List.filter_cons, hbusy, Bool.not_true, Bool.false_eq_true, if_false] at hown
  exact { hl with
    busy := Nat.le_of_succ_le hcount
    own := hown }

/-- The one reply that is not a BUSY reply is that of the request in hand; with it sent, both slots can empty. -/
theorem LinkSafe.ownSent {r : Reply} {rest : List Reply} (hr : l.replies = r :: rest) (hbusy : r.busy = false) :
    LinkSafe { l with replies := rest, hand := none, waiting := none } := by
  have hcount := hl.busy
  have hown := hl.own
  rw [hr] at hcount hown
  simp only [busyCount, List.filter_cons, hbusy, Bool.false_eq_true, if_false] at hcount
  simp only [ownReplies, List.filter_cons, hbusy, Bool.not_false, if_true, List.length_cons] at hown
  exact { hl with
    busy := hcount
    own := by
      show ownReplies rest = 0
      unfold ownReplies
      split at hown <;> omega
    waiting := fun h => h }

/-- While no request is in hand the list holds no reply but BUSY replies. -/
theorem LinkSafe.busy_of_empty {r : Reply} {rest : List Reply} (hh : l.hand = none) (hr : l.replies = r :: rest) :
    r.busy = true := by
  have hown := hl.own
  rw [HostLink.answered_of_empty hh, hr] at hown
  by_contra hbusy
  simp [ownReplies, hbusy] at hown

end

theorem HostLink.softReset_safe (l : HostLink) : LinkSafe l.softReset :=
  { defaultLink_safe with
    queue := Nat.le_of_ble_eq_true rfl
    attention := rfl }

/-! ### The framer, the slots and the requests -/

section
variable {s : State} (hs : LinkSafe s.link)
include hs

theorem State.frameByte_linkSafe (b : Byte) : LinkSafe (s.frameByte b).link := by
  unfold State.frameByte
  split
  · split
    · exact hs.receiving FramerPhase.noConfusion _ fun _ _ h => nomatch h
    · exact hs
  · split
    · next hb =>
      refine hs.receiving FramerPhase.noConfusion _ ?_
      rintro len kept ⟨⟩
      exact ⟨hb.1, hb.2, Nat.succ_pos _⟩
    · exact hs.hunt
  · next len kept hphase =>
    obtain ⟨hlow, hhigh, -⟩ := hs.frame len kept hphase
    unfold State.keepByte
    split
    · next hroom =>
      refine hs.receiving FramerPhase.noConfusion _ ?_
      rintro _ _ ⟨⟩
      exact ⟨hlow, hhigh, hroom⟩
    · dsimp only
      split <;> exact hs.hunt

theorem State.replyInHand_linkSafe {h : InHand} (hh : s.link.hand = some h) (ha : h.answered = false)
    (b : List Byte) : LinkSafe (s.replyInHand b).link := by
  rw [State.replyInHand_of_hand hh]
  exact hs.reply hh ha _

theorem State.placeInHand_linkSafe (hh : s.link.hand = none) (f : Frame) : LinkSafe (s.placeInHand f).link := by
  have hheld := hs.hold hh f
  unfold State.placeInHand
  dsimp only
  split
  · exact State.replyInHand_linkSafe (s := s.setLink _) hheld rfl rfl _
  · exact State.replyInHand_linkSafe (s := s.setLink _) hheld rfl rfl _
  · exact hheld

theorem State.placeFrame_linkSafe (f : Frame) : LinkSafe (s.placeFrame f).link := by
  unfold State.placeFrame
  split
  · next hh => exact State.placeInHand_linkSafe hs hh f
  · next h hh _ =>
    split
    · exact hs
    · exact hs.wait hh f
  · split
    · exact hs
    · split
      · next hroom => exact hs.replyBusy hroom _
      · exact hs

theorem State.answer_linkSafe (i : Instr) (b : List Byte) : LinkSafe (s.answer i b).link := by
  unfold State.answer
  split
  · next hi =>
    obtain ⟨h, hh, ha, -⟩ := State.awaits_eq_some_iff.mp hi
    exact State.replyInHand_linkSafe hs hh ha b
  · exact hs

theorem RequestTaken.linkSafe {u : State} (h : RequestTaken s u) : LinkSafe u.link := by
  have hattention : u.link.attention = attentionOf u.link.reports u.link.notify :=
    h.attention.elim (fun he => he ▸ hs.attention) id
  rw [h.slots]
  exact { hs with
    queue := h.queue.trans hs.queue
    attention := hattention }

end

/-! ### The commands -/

section
variable {s : State} (hs : LinkSafe s.link)
include hs

/-- The in-hand slot empties behind the last byte of its reply, and the waiting request moves up (R168, R170). -/
theorem State.emptyHand_linkSafe {r : Reply} {rest : List Reply} (hr : s.link.replies = r :: rest)
    (hbusy : r.busy = false) : LinkSafe (s.setLink { s.link with replies := rest }).emptyHand.link := by
  have hempty := hs.ownSent hr hbusy
  unfold State.emptyHand
  split
  · exact State.placeInHand_linkSafe (s := State.setLink _ _) hempty rfl _
  · next hwaiting =>
    rw [State.setLink_link] at hwaiting
    rw [← hwaiting] at hempty
    exact hempty

theorem execReplySent_linkSafe : Completes (fun t => LinkSafe t.link) (execReplySent s) := by
  unfold execReplySent
  split
  · next r rest hr =>
    refine .next ?_
    dsimp only
    split
    · next hbusy => exact hs.busySent hr hbusy
    · next hbusy =>
      have hown : r.busy = false := by simpa using hbusy
      unfold State.handSent
      split
      · split
        · rw [State.softReset_eq, (State.leaveReset_host _).link]
          exact HostLink.softReset_safe _
        · exact State.emptyHand_linkSafe hs hr hown
      · next hh => exact absurd (hs.busy_of_empty hh hr) hbusy
  · exact .next hs

theorem execResetPart_linkSafe : Completes (fun t => LinkSafe t.link) (execResetPart s) := by
  have hreply : ∀ t : State, LinkSafe t.link →
      LinkSafe (if t.awaits = some .resetPart then t.replyInHand [codeOk] else t).link := fun t ht => by
    split
    · next hi =>
      obtain ⟨h, hh, ha, -⟩ := State.awaits_eq_some_iff.mp hi
      exact State.replyInHand_linkSafe ht hh ha _
    · exact ht
  refine .next (hreply _ ?_)
  split
  · exact hs
  · exact State.placeFrame_linkSafe hs _

/-- Every command keeps the host link unit safe. -/
theorem exec_linkSafe (i : Instr) : Completes (fun t => LinkSafe t.link) (exec i s) := by
  obtain hstands | ⟨r, hr, hforms⟩ | hevent := exec_sorts i s
  · exact hstands.mono fun t ht => ht.link ▸ hs
  · rw [hr]
    exact .next (State.answer_linkSafe (RequestTaken.linkSafe hs hforms.taken) _ _)
  · cases i with
    | powerOnReset =>
      refine .next ?_
      show LinkSafe s.powerOnBlocks.leaveReset.link
      rw [(State.leaveReset_host _).link]
      exact defaultLink_safe
    | reportEnqueue c =>
      simp only [exec, execReportEnqueue]
      split
      · exact .next (hs.enqueue _)
      · exact .next hs
    | hostByteReceived b => exact .next (State.frameByte_linkSafe hs b)
    | characterError =>
      simp only [exec, execCharacterError]
      split
      · exact .next hs
      all_goals exact .next hs.hunt
    | resync => exact .next hs.hunt
    | gapTimerExpiry =>
      simp only [exec, execGapTimerExpiry]
      split
      · exact .next hs.hunt
      · exact .next hs
    | frameComplete =>
      simp only [exec, execFrameComplete]
      split
      · next f rest _ =>
        exact .next (State.placeFrame_linkSafe (s := { s with transit := { s.transit with frames := rest } }) hs f)
      · exact .next hs
    | replySent => exact execReplySent_linkSafe hs
    | resetPart => exact execResetPart_linkSafe hs
    | _ => cases hevent

end

/-- Settles O59: a millisecond keeps the unit safe (`LinkSafe.tick`), and so does every command (`exec_linkSafe`). -/
theorem everyStepKeepsTheLinkSafe : Obligations.EveryStepKeepsTheLinkSafe := by
  intro s t hs h
  unfold step at h
  split at h
  · cases h
    exact hs.tick
  · next i rest _ => exact (exec_linkSafe (s := { s with pending := rest }) hs i).answers t h

end Sys2Proof.Machine
end

section
/-! O1, O7 and O21. A step takes the front command (R168), every command completes, and a request's reply is formed in
the event that takes it (R169, R170). -/

namespace Sys2Proof.Machine

/-- Settles O1, by the equation of `step` on a queue that is not empty. -/
theorem stepTakesTheFrontCommand : Obligations.StepTakesTheFrontCommand := by
  intro c rest s h
  rw [step, h]

/-! ### The queue of commands stands -/

theorem State.placeInHand_side (s : State) (f : Frame) : ReplySide s (s.placeInHand f) := by
  have hheld : ReplySide s (s.setLink { s.link with hand := some { frame := f, answered := false } }) := rfl
  unfold State.placeInHand
  dsimp only
  split
  · exact hheld.trans (State.replyInHand_side _ _)
  · exact hheld.trans (State.replyInHand_side _ _)
  · exact hheld

theorem State.placeFrame_side (s : State) (f : Frame) : ReplySide s (s.placeFrame f) := by
  unfold State.placeFrame
  split
  · exact State.placeInHand_side s f
  · split <;> rfl
  · split_ifs <;> rfl

theorem State.emptyHand_side (s : State) : ReplySide s s.emptyHand := by
  unfold State.emptyHand
  split
  · next f _ =>
    exact ReplySide.trans (t := s.setLink { s.link with hand := none, waiting := none }) rfl
      (State.placeInHand_side _ f)
  · rfl

theorem State.frameByte_pending (s : State) (b : Byte) : (s.frameByte b).pending = s.pending := by
  unfold State.frameByte
  split
  · split <;> rfl
  · split <;> rfl
  · unfold State.keepByte
    dsimp only
    split
    · rfl
    · split <;> rfl

theorem execReplySent_pending (s : State) : Completes (fun t => t.pending = s.pending) (execReplySent s) := by
  unfold execReplySent
  split
  · refine .next ?_
    dsimp only
    split
    · rfl
    · unfold State.handSent
      split
      · split
        · exact (State.leaveReset_host _).pending
        · exact (State.emptyHand_side _).pending
      · rfl
  · exact .next rfl

theorem execResetPart_pending (s : State) : Completes (fun t => t.pending = s.pending) (execResetPart s) := by
  have hreply : ∀ t : State, ReplySide s t →
      ReplySide s (if t.awaits = some .resetPart then t.replyInHand [codeOk] else t) := fun t ht => by
    split
    · exact ht.trans (State.replyInHand_side _ _)
    · exact ht
  refine .next (hreply _ ?_).pending
  split
  · exact .refl s
  · exact State.placeFrame_side s _

/-- Settles O7: what is no event of the host link unit completes by `exec_sorts`, and those events one by one. -/
theorem everyCommandCompletes : Obligations.EveryCommandCompletes := by
  intro i s
  show Completes (fun t => t.pending = s.pending) (exec i s)
  obtain hstands | ⟨r, hr, hforms⟩ | hevent := exec_sorts i s
  · exact hstands.mono fun t ht => ht.pending
  · rw [hr]
    exact .next ((State.answer_side _ _ _).pending.trans hforms.taken.pending)
  · cases i with
    | powerOnReset => exact .next (State.leaveReset_host s.powerOnBlocks).pending
    | reportEnqueue c =>
      simp only [exec, execReportEnqueue]
      split <;> exact .next rfl
    | hostByteReceived b => exact .next (s.frameByte_pending b)
    | characterError =>
      simp only [exec, execCharacterError]
      split <;> exact .next rfl
    | resync => exact .next rfl
    | gapTimerExpiry =>
      simp only [exec, execGapTimerExpiry]
      split <;> exact .next rfl
    | frameComplete =>
      simp only [exec, execFrameComplete]
      split
      · next f rest _ =>
        have hside := State.placeFrame_side { s with transit := { s.transit with frames := rest } } f
        exact .next hside.pending
      · exact .next rfl
    | replySent => exact execReplySent_pending s
    | resetPart => exact execResetPart_pending s
    | _ => cases hevent

/-! ### One reply to a request -/

section
variable {s u : State} (h : RequestTaken s u)
include h

theorem RequestTaken.hand : u.link.hand = s.link.hand := by rw [h.slots]

theorem RequestTaken.waiting : u.link.waiting = s.link.waiting := by rw [h.slots]

theorem RequestTaken.replies : u.link.replies = s.link.replies := by rw [h.slots]

theorem RequestTaken.phase : u.link.phase = s.link.phase := by rw [h.slots]

theorem RequestTaken.gap : u.link.gap = s.link.gap := by rw [h.slots]

theorem RequestTaken.awaits : u.awaits = s.awaits := State.awaits_congr h.hand

end

/-- The reply of the request in hand takes its place in the reply list. -/
theorem State.answer_awaited {s : State} {i : Instr} {h : InHand} (hi : s.awaits = some i) (hh : s.link.hand = some h)
    (b : List Byte) : s.answer i b = s.setLink { s.link with
      hand := some { h with answered := true }
      replies := s.link.replies ++ [{ busy := false, bytes := replyBytes h.frame b }] } := by
  rw [State.answer, if_pos hi, State.replyInHand_of_hand hh]

/-- The reply to a request command that is not the request in hand stands at the port. -/
theorem State.answer_other {s : State} {i : Instr} (hi : s.awaits ≠ some i) (b : List Byte) :
    s.answer i b = { s with port := some b } := if_neg hi

/-- A reply writes neither the waiting slot nor the framer. -/
theorem State.answer_link (s : State) (i : Instr) (b : List Byte) : (s.answer i b).link = { s.link with
    hand := (s.answer i b).link.hand, replies := (s.answer i b).link.replies } := by
  unfold State.answer State.replyInHand
  split
  · split <;> rfl
  · rfl

/-- Settles O21: the request's block takes it and gives the body (`exec_serves`), and the body is placed by whether the
request is the one in hand (`State.answer_awaited`, `State.answer_other`). -/
theorem everyRequestFormsOneReply : Obligations.EveryRequestFormsOneReply := by
  intro i s hk hreset
  obtain ⟨r, hr, htaken, hbody⟩ := exec_serves i s hk hreset
  have hlink := State.answer_link r.1 i r.2
  refine ⟨r.1.answer i r.2, r.2, hr, hbody, fun h hh hi => ?_, fun hi => ?_, ?_, ?_, ?_⟩
  · rw [State.answer_awaited (htaken.awaits.trans hi) (htaken.hand.trans hh), ← htaken.replies, ← htaken.port]
    exact ⟨rfl, rfl, rfl⟩
  · rw [State.answer_other (htaken.awaits ▸ hi)]
    exact ⟨htaken.hand, htaken.replies, rfl⟩
  · rw [hlink]
    exact htaken.waiting
  · rw [hlink]
    exact htaken.phase
  · rw [hlink]
    exact htaken.gap

end Sys2Proof.Machine
end

section
/-! O53. The receive framer: one byte by its phase, what drops a partial frame, and a whole frame taken byte by byte
(R165 to R167, R178, R179). -/

namespace Sys2Proof.Machine

/-! ### One byte, by the phase (R165) -/

section
variable {s : State}

theorem State.frameByte_hunt (h : s.link.phase = .hunt) (b : Byte) : s.frameByte b =
    if b = 0xA5 then s.setLink { s.link with phase := .length, gap := some 5 } else s := by
  rw [State.frameByte, h]
  rfl

theorem State.frameByte_length (h : s.link.phase = .length) (b : Byte) : s.frameByte b =
    if 2 ≤ b.toNat ∧ b.toNat ≤ 122 then s.setLink { s.link with phase := .body b [], gap := some 5 }
    else s.setLink s.link.hunt := by
  rw [State.frameByte, h]
  rfl

theorem State.frameByte_body {n : Byte} {l : List Byte} (h : s.link.phase = .body n l) (b : Byte) :
    s.frameByte b = s.keepByte n (l ++ [b]) := by
  rw [State.frameByte, h]

theorem State.keepByte_partial {n : Byte} {l : List Byte} (h : l.length < n.toNat + 2) :
    s.keepByte n l = s.setLink { s.link with phase := .body n l, gap := some 5 } := if_pos h

end

/-- The framer in HUNT behind a whole frame, which is handed on where its check code is right (R165, R179). -/
def State.frameEnded (s : State) : Option Frame → State
  | some f => (s.setLink s.link.hunt).handFrame f
  | none => s.setLink s.link.hunt

theorem State.keepByte_whole {s : State} {n : Byte} {l : List Byte} (h : n.toNat + 2 ≤ l.length) :
    s.keepByte n l = s.frameEnded (frameOf? n l) := by
  rw [State.keepByte, if_neg (Nat.not_lt.mpr h)]
  cases frameOf? n l <;> rfl

/-! ### A whole frame, byte by byte -/

/-- The framer in BODY with `l` kept and the gap timer restarted. -/
def State.framing (s : State) (n : Byte) (l : List Byte) : State :=
  s.setLink { s.link with phase := .body n l, gap := some 5 }

theorem State.foldl_frameByte_partial (s : State) (n : Byte) (kept l : List Byte)
    (h : kept.length + l.length < n.toNat + 2) :
    l.foldl State.frameByte (s.framing n kept) = s.framing n (kept ++ l) := by
  induction l generalizing kept with
  | nil => rw [List.append_nil, List.foldl_nil]
  | cons b l ih =>
    rw [List.length_cons] at h
    have hlength : (kept ++ [b]).length + l.length < n.toNat + 2 := by
      rw [List.length_append, List.length_singleton]
      omega
    have hbyte : (s.framing n kept).frameByte b = s.framing n (kept ++ [b]) :=
      (State.frameByte_body rfl b).trans (State.keepByte_partial (by omega))
    rw [List.foldl_cons, hbyte, ih _ hlength, List.append_assoc, List.singleton_append]

/-- The bytes after the length byte, which a frame of length `n` has `n` and two check bytes of. -/
theorem State.foldl_frameByte_whole (s : State) (n : Byte) {l : List Byte} (h : l.length = n.toNat + 2) :
    l.foldl State.frameByte (s.framing n []) = s.frameEnded (frameOf? n l) := by
  obtain ⟨init, b, rfl⟩ : ∃ init b, l = init ++ [b] := by
    rcases List.eq_nil_or_concat l with rfl | ⟨init, b, hl⟩
    · rw [List.length_nil] at h
      omega
    · exact ⟨init, b, by rw [hl, List.concat_eq_append]⟩
  have hinit : init.length < n.toNat + 2 := by
    rw [List.length_append, List.length_singleton] at h
    omega
  rw [List.foldl_append, State.foldl_frameByte_partial s n [] init (by simpa using hinit), List.nil_append]
  exact (State.frameByte_body (s := s.framing n init) rfl b).trans (State.keepByte_whole h.ge)

/-- The bytes that the check code of a frame covers (R179). -/
def Frame.covered (f : Frame) : List Byte := BitVec.ofNat 8 (f.payload.length + 2) :: f.kind :: f.tag :: f.payload

theorem Frame.length_toNat {f : Frame} (h : f.payload.length ≤ 120) :
    (BitVec.ofNat 8 (f.payload.length + 2)).toNat = f.payload.length + 2 := by
  rw [BitVec.toNat_ofNat]
  omega

/-- What the bytes of a frame spell with two check bytes behind them. -/
theorem frameOf?_checked {f : Frame} (h : f.payload.length ≤ 120) (x y : Byte) :
    frameOf? (BitVec.ofNat 8 (f.payload.length + 2)) ((f.kind :: f.tag :: f.payload) ++ [x, y]) =
      if [x, y] = halfBytes (crc16 f.covered) then some f else none := by
  have hlength : (f.kind :: f.tag :: f.payload).length = f.payload.length + 2 := rfl
  rw [frameOf?, Frame.length_toNat h, ← hlength, List.take_left, List.drop_left]
  rfl

/-- A frame's bytes with the check bytes `x` and `y`, from HUNT: handed on where they are its check code. -/
theorem State.foldl_frameByte_frame {s : State} {f : Frame} (hs : s.link.phase = .hunt)
    (h : f.payload.length ≤ 120) (x y : Byte) :
    ((0xA5 :: f.covered) ++ [x, y]).foldl State.frameByte s =
      s.frameEnded (if [x, y] = halfBytes (crc16 f.covered) then some f else none) := by
  have hlength := Frame.length_toNat h
  have hstart : s.frameByte 0xA5 = s.setLink { s.link with phase := .length, gap := some 5 } :=
    (State.frameByte_hunt hs _).trans (if_pos rfl)
  have hopen : (s.frameByte 0xA5).frameByte (BitVec.ofNat 8 (f.payload.length + 2)) =
      s.framing (BitVec.ofNat 8 (f.payload.length + 2)) [] := by
    rw [hstart]
    exact (State.frameByte_length rfl _).trans (if_pos (by omega))
  have hbody := State.foldl_frameByte_whole s (BitVec.ofNat 8 (f.payload.length + 2))
    (l := (f.kind :: f.tag :: f.payload) ++ [x, y]) (by rw [hlength]; simp)
  rw [frameOf?_checked h] at hbody
  rw [← hbody, ← hopen]
  rfl

/-! ### What drops a partial frame (R165, R166) -/

theorem exec_characterError_hunt {s : State} (h : s.link.phase = .hunt) : exec .characterError s = .next s := by
  simp only [exec, execCharacterError, h]

theorem exec_characterError_partial {s : State} (h : s.link.phase ≠ .hunt) :
    exec .characterError s = .next (s.setLink s.link.hunt) := by
  simp only [exec, execCharacterError]
  split
  · next hhunt => exact absurd hhunt h
  all_goals rfl

/-- Settles O53: a byte by the phase of the framer, and a frame by `State.foldl_frameByte_frame`, whose check bytes are
its check code or not. -/
theorem framesAreReceived : Obligations.FramesAreReceived := by
  intro s hunt
  refine ⟨fun b => rfl, fun hs => ⟨?start, fun b hb => ?skip, exec_characterError_hunt hs⟩,
    fun hs b => ⟨fun hb => ?opens, fun hb => ?refuses⟩, fun n l b hs hl => ?keeps, exec_characterError_partial, rfl,
    fun hgap => if_neg hgap, fun hgap => if_pos hgap, fun f x y hs hf => ⟨?handed, fun hxy => ?discarded⟩⟩
  case start => exact congrArg Host.Outcome.next ((State.frameByte_hunt hs _).trans (if_pos rfl))
  case skip => exact congrArg Host.Outcome.next ((State.frameByte_hunt hs b).trans (if_neg hb))
  case opens => exact congrArg Host.Outcome.next ((State.frameByte_length hs b).trans (if_pos hb))
  case refuses => exact congrArg Host.Outcome.next ((State.frameByte_length hs b).trans (if_neg (by omega)))
  case keeps =>
    have hlength : (l ++ [b]).length < n.toNat + 2 := by
      rw [List.length_append]
      exact hl
    exact congrArg Host.Outcome.next ((State.frameByte_body hs b).trans (State.keepByte_partial hlength))
  case handed => exact (State.foldl_frameByte_frame hs hf _ _).trans (congrArg s.frameEnded (if_pos rfl))
  case discarded => exact (State.foldl_frameByte_frame hs hf x y).trans (congrArg s.frameEnded (if_neg hxy))

end Sys2Proof.Machine
end

section
/-! O54. A complete frame by the state of the two slots, the last byte of a reply, and RESET_PART in hand (R168 to R170,
R176). -/

namespace Sys2Proof.Machine

/-! ### A frame in hand -/

/-- From `u` to `t` the frame `f` is placed in the empty slot and checked (R168, R169): answered at once for an unknown
kind or a wrong length, else left there for the block that owns the request. -/
structure Placed (u : State) (f : Frame) (t : State) : Prop where
  badKind : checkRequest f.kind f.payload = .badKind → t = { u with link := { u.link with
    hand := some { frame := f, answered := true }
    replies := u.link.replies ++ [{ busy := false, bytes := replyBytes f [codeBadKind] }] } }
  badLength : checkRequest f.kind f.payload = .badLength → t = { u with link := { u.link with
    hand := some { frame := f, answered := true }
    replies := u.link.replies ++ [{ busy := false, bytes := replyBytes f [codeBadLength] }] } }
  request : ∀ i, checkRequest f.kind f.payload = .request i →
    t = { u with link := { u.link with hand := some { frame := f, answered := false } } } ∧ t.awaits = some i

theorem State.placeInHand_placed (u : State) (f : Frame) : Placed u f (u.placeInHand f) where
  badKind h := by
    simp only [State.placeInHand, h]
    rfl
  badLength h := by
    simp only [State.placeInHand, h]
    rfl
  request i h := by
    have hplaced : u.placeInHand f = u.setLink { u.link with hand := some { frame := f, answered := false } } := by
      simp only [State.placeInHand, h]
    rw [hplaced]
    exact ⟨rfl, State.awaits_eq_some_iff.mpr ⟨_, rfl, rfl, h⟩⟩

theorem InHand.isResetPart_iff_request (h : InHand) :
    h.isResetPart = true ↔ checkRequest h.frame.kind h.frame.payload = .request .resetPart := beq_iff_eq

/-! ### A complete frame, by the slots (R168) -/

section
variable {s : State} {h : InHand} (f : Frame)

theorem State.placeFrame_of_empty (hh : s.link.hand = none) : s.placeFrame f = s.placeInHand f := by
  simp only [State.placeFrame, hh]

theorem State.placeFrame_behind_reset (hh : s.link.hand = some h) (hreset : h.isResetPart = true) :
    s.placeFrame f = s := by
  cases hw : s.link.waiting <;> simp only [State.placeFrame, hh, hw, hreset, if_true]

theorem State.placeFrame_waits (hh : s.link.hand = some h) (hreset : h.isResetPart = false)
    (hw : s.link.waiting = none) : s.placeFrame f = s.setLink { s.link with waiting := some f } := by
  simp only [State.placeFrame, hh, hw, hreset]
  rfl

theorem State.placeFrame_full (hh : s.link.hand = some h) (hreset : h.isResetPart = false)
    (hw : s.link.waiting ≠ none) :
    s.placeFrame f = if busyCount s.link.replies < 8 then s.replyBusy f else s := by
  obtain ⟨g, hg⟩ := Option.ne_none_iff_exists'.mp hw
  simp only [State.placeFrame, hh, hg, hreset]
  rfl

end

/-- The state with `l` for the complete frames in transit. -/
def State.withFrames (s : State) (l : List Frame) : State := { s with transit := { s.transit with frames := l } }

theorem exec_frameComplete {s : State} {f : Frame} {rest : List Frame} (hf : s.transit.frames = f :: rest) :
    exec .frameComplete s = .next ((s.withFrames rest).placeFrame f) := by
  simp only [exec, execFrameComplete, hf]
  rfl

/-! ### The last byte of a reply (R170) -/

section
variable {s : State} {h : InHand} {r : Reply} {rest : List Reply}

theorem execReplySent_busy (hr : s.link.replies = r :: rest) (hbusy : r.busy = true) :
    exec .replySent s = .next (s.withReplies rest) := by
  simp only [exec, execReplySent, hr, hbusy]
  rfl

theorem execReplySent_own (hh : s.link.hand = some h) (hreset : h.isResetPart = false)
    (hr : s.link.replies = r :: rest) (hbusy : r.busy = false) :
    exec .replySent s = .next (s.withReplies rest).emptyHand := by
  simp only [exec, execReplySent, hr, hbusy, State.handSent, State.setLink_link, hh, hreset]
  rfl

theorem State.emptyHand_of_none (hw : s.link.waiting = none) :
    s.emptyHand = s.setLink { s.link with hand := none } := by
  rw [State.emptyHand, hw]

theorem State.emptyHand_of_some {f : Frame} (hw : s.link.waiting = some f) :
    s.emptyHand = (s.setLink { s.link with hand := none, waiting := none }).placeInHand f := by
  rw [State.emptyHand, hw]

end

/-- Settles O54: a frame by the slots (`State.placeFrame_of_empty` and those after it), a sent reply by whether it is a
BUSY reply and by the waiting slot, and RESET_PART by its equation. -/
theorem framesArePlacedAndReplied : Obligations.FramesArePlacedAndReplied := by
  intro s busy reply placed
  have hplaced : ∀ u f, placed u f (u.placeInHand f) := fun u f =>
    have h := u.placeInHand_placed f
    ⟨h.badKind, h.badLength, h.request⟩
  have hother : ∀ h : InHand, checkRequest h.frame.kind h.frame.payload ≠ .request .resetPart →
      h.isResetPart = false := fun h hne => Bool.eq_false_iff.mpr (mt h.isResetPart_iff_request.mp hne)
  refine ⟨fun f rest hf => ?_, fun r rest hr => ?_, fun h hh hi => ?_⟩
  · refine ⟨_, s.withFrames rest, exec_frameComplete hf, rfl, fun hh => ?empty, fun h hh => ⟨fun hreset => ?behind,
      fun hne => ⟨fun hw => ?waits, fun hw hroom => ?busy, fun hw hfull => ?discarded⟩⟩⟩
    case empty =>
      rw [State.placeFrame_of_empty (s := s.withFrames rest) f hh]
      exact hplaced _ f
    case behind =>
      exact State.placeFrame_behind_reset (s := s.withFrames rest) f hh (h.isResetPart_iff_request.mpr hreset)
    case waits => exact State.placeFrame_waits (s := s.withFrames rest) f hh (hother h hne) hw
    case busy =>
      exact (State.placeFrame_full (s := s.withFrames rest) f hh (hother h hne) hw).trans (if_pos hroom)
    case discarded =>
      exact (State.placeFrame_full (s := s.withFrames rest) f hh (hother h hne) hw).trans
        (if_neg (Nat.not_lt.mpr hfull))
  · have hstands : (s.withReplies rest).link.waiting = s.link.waiting := rfl
    refine ⟨s.withReplies rest, rfl, execReplySent_busy hr, fun h hbusy hh hne => ?_⟩
    rw [execReplySent_own hh (hother h hne) hr hbusy]
    refine ⟨fun hw => ?_, fun f hw => ⟨_, rfl, ?_⟩⟩
    · rw [State.emptyHand_of_none (hstands.trans hw)]
      rfl
    · rw [State.emptyHand_of_some (hstands.trans hw)]
      exact hplaced _ f
  · show execResetPart s = _
    simp only [execResetPart, hi, if_true]
    rw [State.replyInHand_of_hand hh]
    rfl

end Sys2Proof.Machine
end
